-- ==== Sys2Proof/Word.lean ====
section
/-! DEFINITION. The data widths of the SH-2E (rules R6, R20, R33): bytes, words of 16 bits, longwords of 32 bits, and
register numbers. -/

namespace Sys2Proof

/-- A byte, the unit of addressing (rule R60). -/
abbrev Byte := BitVec 8

/-- What the manual calls a word: 16 bits, the size of an instruction code (rules R6, R90). -/
abbrev Half := BitVec 16

/-- What the manual calls a longword: 32 bits, the size of a register and of an address (rules R6, R20, R60). -/
abbrev Word := BitVec 32

/-- The number of a general register R0 to R15 (rule R20). -/
abbrev Reg := Fin 16

/-- The number of a floating-point register FR0 to FR15 (rule R33). -/
abbrev FReg := Fin 16

end Sys2Proof
end

