-- ==== Sys2Proof/Syntax.lean ====
section
/-! DEFINITION. The instructions of the SH-2E as an inductive type: one constructor for each of the 172 rows of
`spec/opcode_table.json`. Operands stand in assembler order (source first, rule R121), each of the exact width of its
field (rules R91 to R93); the decoder extracts them once and no meaning looks at an encoding again. -/

namespace Sys2Proof

/-- One instruction of the SH-2E (rule R114: 172 of them). A docstring gives the assembler form and the rule that defines
the instruction. Register operands are register numbers, `i` an immediate field, `d` a raw displacement field. -/
inductive Instr where
  -- Data transfer instructions (spec/40_data_transfer.md)
  /-- `MOV #imm,Rn`, rule R145. -/
  | movImm (i : BitVec 8) (n : Reg)
  /-- `MOV.W @(disp,PC),Rn`, rule R146. -/
  | movWPc (d : BitVec 8) (n : Reg)
  /-- `MOV.L @(disp,PC),Rn`, rule R147. -/
  | movLPc (d : BitVec 8) (n : Reg)
  /-- `MOV Rm,Rn`, rule R148. -/
  | mov (m : Reg) (n : Reg)
  /-- `MOV.B Rm,@Rn`, rule R149. -/
  | movBStore (m : Reg) (n : Reg)
  /-- `MOV.W Rm,@Rn`, rule R150. -/
  | movWStore (m : Reg) (n : Reg)
  /-- `MOV.L Rm,@Rn`, rule R151. -/
  | movLStore (m : Reg) (n : Reg)
  /-- `MOV.B @Rm,Rn`, rule R152. -/
  | movBLoad (m : Reg) (n : Reg)
  /-- `MOV.W @Rm,Rn`, rule R153. -/
  | movWLoad (m : Reg) (n : Reg)
  /-- `MOV.L @Rm,Rn`, rule R154. -/
  | movLLoad (m : Reg) (n : Reg)
  /-- `MOV.B Rm,@-Rn`, rule R155. -/
  | movBPreDec (m : Reg) (n : Reg)
  /-- `MOV.W Rm,@-Rn`, rule R156. -/
  | movWPreDec (m : Reg) (n : Reg)
  /-- `MOV.L Rm,@-Rn`, rule R157. -/
  | movLPreDec (m : Reg) (n : Reg)
  /-- `MOV.B @Rm+,Rn`, rule R158. -/
  | movBPostInc (m : Reg) (n : Reg)
  /-- `MOV.W @Rm+,Rn`, rule R159. -/
  | movWPostInc (m : Reg) (n : Reg)
  /-- `MOV.L @Rm+,Rn`, rule R160. -/
  | movLPostInc (m : Reg) (n : Reg)
  /-- `MOV.B R0,@(disp,Rn)`, rule R161. -/
  | movBStoreDisp (d : BitVec 4) (n : Reg)
  /-- `MOV.W R0,@(disp,Rn)`, rule R162. -/
  | movWStoreDisp (d : BitVec 4) (n : Reg)
  /-- `MOV.L Rm,@(disp,Rn)`, rule R163. -/
  | movLStoreDisp (m : Reg) (d : BitVec 4) (n : Reg)
  /-- `MOV.B @(disp,Rm),R0`, rule R164. -/
  | movBLoadDisp (d : BitVec 4) (m : Reg)
  /-- `MOV.W @(disp,Rm),R0`, rule R165. -/
  | movWLoadDisp (d : BitVec 4) (m : Reg)
  /-- `MOV.L @(disp,Rm),Rn`, rule R166. -/
  | movLLoadDisp (d : BitVec 4) (m : Reg) (n : Reg)
  /-- `MOV.B Rm,@(R0,Rn)`, rule R167. -/
  | movBStoreR0 (m : Reg) (n : Reg)
  /-- `MOV.W Rm,@(R0,Rn)`, rule R168. -/
  | movWStoreR0 (m : Reg) (n : Reg)
  /-- `MOV.L Rm,@(R0,Rn)`, rule R169. -/
  | movLStoreR0 (m : Reg) (n : Reg)
  /-- `MOV.B @(R0,Rm),Rn`, rule R170. -/
  | movBLoadR0 (m : Reg) (n : Reg)
  /-- `MOV.W @(R0,Rm),Rn`, rule R171. -/
  | movWLoadR0 (m : Reg) (n : Reg)
  /-- `MOV.L @(R0,Rm),Rn`, rule R172. -/
  | movLLoadR0 (m : Reg) (n : Reg)
  /-- `MOV.B R0,@(disp,GBR)`, rule R173. -/
  | movBStoreGbr (d : BitVec 8)
  /-- `MOV.W R0,@(disp,GBR)`, rule R174. -/
  | movWStoreGbr (d : BitVec 8)
  /-- `MOV.L R0,@(disp,GBR)`, rule R175. -/
  | movLStoreGbr (d : BitVec 8)
  /-- `MOV.B @(disp,GBR),R0`, rule R176. -/
  | movBLoadGbr (d : BitVec 8)
  /-- `MOV.W @(disp,GBR),R0`, rule R177. -/
  | movWLoadGbr (d : BitVec 8)
  /-- `MOV.L @(disp,GBR),R0`, rule R178. -/
  | movLLoadGbr (d : BitVec 8)
  /-- `MOVA @(disp,PC),R0`, rule R179. -/
  | mova (d : BitVec 8)
  /-- `MOVT Rn`, rule R180. -/
  | movt (n : Reg)
  /-- `SWAP.B Rm,Rn`, rule R181. -/
  | swapB (m : Reg) (n : Reg)
  /-- `SWAP.W Rm,Rn`, rule R182. -/
  | swapW (m : Reg) (n : Reg)
  /-- `XTRCT Rm,Rn`, rule R183. -/
  | xtrct (m : Reg) (n : Reg)
  -- Arithmetic instructions (spec/41_arithmetic.md)
  /-- `ADD Rm,Rn`, rule R201. -/
  | add (m : Reg) (n : Reg)
  /-- `ADD #imm,Rn`, rule R202. -/
  | addImm (i : BitVec 8) (n : Reg)
  /-- `ADDC Rm,Rn`, rule R203. -/
  | addc (m : Reg) (n : Reg)
  /-- `ADDV Rm,Rn`, rule R204. -/
  | addv (m : Reg) (n : Reg)
  /-- `CMP/EQ #imm,R0`, rule R205. -/
  | cmpEqImm (i : BitVec 8)
  /-- `CMP/EQ Rm,Rn`, rule R206. -/
  | cmpEq (m : Reg) (n : Reg)
  /-- `CMP/HS Rm,Rn`, rule R207. -/
  | cmpHs (m : Reg) (n : Reg)
  /-- `CMP/GE Rm,Rn`, rule R208. -/
  | cmpGe (m : Reg) (n : Reg)
  /-- `CMP/HI Rm,Rn`, rule R209. -/
  | cmpHi (m : Reg) (n : Reg)
  /-- `CMP/GT Rm,Rn`, rule R210. -/
  | cmpGt (m : Reg) (n : Reg)
  /-- `CMP/PL Rn`, rule R211. -/
  | cmpPl (n : Reg)
  /-- `CMP/PZ Rn`, rule R212. -/
  | cmpPz (n : Reg)
  /-- `CMP/STR Rm,Rn`, rule R213. -/
  | cmpStr (m : Reg) (n : Reg)
  /-- `DIV1 Rm,Rn`, rule R214. -/
  | div1 (m : Reg) (n : Reg)
  /-- `DIV0S Rm,Rn`, rule R215. -/
  | div0s (m : Reg) (n : Reg)
  /-- `DIV0U`, rule R216. -/
  | div0u
  /-- `DMULS.L Rm,Rn`, rule R218. -/
  | dmulsL (m : Reg) (n : Reg)
  /-- `DMULU.L Rm,Rn`, rule R219. -/
  | dmuluL (m : Reg) (n : Reg)
  /-- `DT Rn`, rule R220. -/
  | dt (n : Reg)
  /-- `EXTS.B Rm,Rn`, rule R221. -/
  | extsB (m : Reg) (n : Reg)
  /-- `EXTS.W Rm,Rn`, rule R222. -/
  | extsW (m : Reg) (n : Reg)
  /-- `EXTU.B Rm,Rn`, rule R223. -/
  | extuB (m : Reg) (n : Reg)
  /-- `EXTU.W Rm,Rn`, rule R224. -/
  | extuW (m : Reg) (n : Reg)
  /-- `MAC.L @Rm+,@Rn+`, rule R225. -/
  | macL (m : Reg) (n : Reg)
  /-- `MAC.W @Rm+,@Rn+`, rule R226. -/
  | macW (m : Reg) (n : Reg)
  /-- `MUL.L Rm,Rn`, rule R227. -/
  | mulL (m : Reg) (n : Reg)
  /-- `MULS.W Rm,Rn`, rule R228. -/
  | mulsW (m : Reg) (n : Reg)
  /-- `MULU.W Rm,Rn`, rule R229. -/
  | muluW (m : Reg) (n : Reg)
  /-- `NEG Rm,Rn`, rule R230. -/
  | neg (m : Reg) (n : Reg)
  /-- `NEGC Rm,Rn`, rule R231. -/
  | negc (m : Reg) (n : Reg)
  /-- `SUB Rm,Rn`, rule R232. -/
  | sub (m : Reg) (n : Reg)
  /-- `SUBC Rm,Rn`, rule R233. -/
  | subc (m : Reg) (n : Reg)
  /-- `SUBV Rm,Rn`, rule R234. -/
  | subv (m : Reg) (n : Reg)
  -- Logic instructions (spec/42_logic.md)
  /-- `AND Rm,Rn`, rule R261. -/
  | andReg (m : Reg) (n : Reg)
  /-- `AND #imm,R0`, rule R262. -/
  | andImm (i : BitVec 8)
  /-- `AND.B #imm,@(R0,GBR)`, rule R263. -/
  | andB (i : BitVec 8)
  /-- `NOT Rm,Rn`, rule R264. -/
  | notReg (m : Reg) (n : Reg)
  /-- `OR Rm,Rn`, rule R265. -/
  | orReg (m : Reg) (n : Reg)
  /-- `OR #imm,R0`, rule R266. -/
  | orImm (i : BitVec 8)
  /-- `OR.B #imm,@(R0,GBR)`, rule R267. -/
  | orB (i : BitVec 8)
  /-- `TAS.B @Rn`, rule R268. -/
  | tasB (n : Reg)
  /-- `TST Rm,Rn`, rule R269. -/
  | tstReg (m : Reg) (n : Reg)
  /-- `TST #imm,R0`, rule R270. -/
  | tstImm (i : BitVec 8)
  /-- `TST.B #imm,@(R0,GBR)`, rule R271. -/
  | tstB (i : BitVec 8)
  /-- `XOR Rm,Rn`, rule R272. -/
  | xorReg (m : Reg) (n : Reg)
  /-- `XOR #imm,R0`, rule R273. -/
  | xorImm (i : BitVec 8)
  /-- `XOR.B #imm,@(R0,GBR)`, rule R274. -/
  | xorB (i : BitVec 8)
  -- Shift instructions (spec/43_shift.md)
  /-- `ROTL Rn`, rule R291. -/
  | rotl (n : Reg)
  /-- `ROTR Rn`, rule R292. -/
  | rotr (n : Reg)
  /-- `ROTCL Rn`, rule R293. -/
  | rotcl (n : Reg)
  /-- `ROTCR Rn`, rule R294. -/
  | rotcr (n : Reg)
  /-- `SHAL Rn`, rule R295. -/
  | shal (n : Reg)
  /-- `SHAR Rn`, rule R296. -/
  | shar (n : Reg)
  /-- `SHLL Rn`, rule R297. -/
  | shll (n : Reg)
  /-- `SHLR Rn`, rule R298. -/
  | shlr (n : Reg)
  /-- `SHLL2 Rn`, rule R299. -/
  | shll2 (n : Reg)
  /-- `SHLR2 Rn`, rule R300. -/
  | shlr2 (n : Reg)
  /-- `SHLL8 Rn`, rule R301. -/
  | shll8 (n : Reg)
  /-- `SHLR8 Rn`, rule R302. -/
  | shlr8 (n : Reg)
  /-- `SHLL16 Rn`, rule R303. -/
  | shll16 (n : Reg)
  /-- `SHLR16 Rn`, rule R304. -/
  | shlr16 (n : Reg)
  -- Branch instructions (spec/44_branch.md)
  /-- `BF label`, rule R326. -/
  | bf (d : BitVec 8)
  /-- `BF/S label`, rule R327. -/
  | bfS (d : BitVec 8)
  /-- `BT label`, rule R328. -/
  | bt (d : BitVec 8)
  /-- `BT/S label`, rule R329. -/
  | btS (d : BitVec 8)
  /-- `BRA label`, rule R330. -/
  | bra (d : BitVec 12)
  /-- `BRAF Rm`, rule R331. -/
  | braf (m : Reg)
  /-- `BSR label`, rule R332. -/
  | bsr (d : BitVec 12)
  /-- `BSRF Rm`, rule R333. -/
  | bsrf (m : Reg)
  /-- `JMP @Rm`, rule R334. -/
  | jmp (m : Reg)
  /-- `JSR @Rm`, rule R335. -/
  | jsr (m : Reg)
  /-- `RTS`, rule R336. -/
  | rts
  -- System control instructions (spec/45_system_control.md)
  /-- `CLRT`, rule R362. -/
  | clrt
  /-- `CLRMAC`, rule R363. -/
  | clrmac
  /-- `LDC Rm,SR`, rule R364. -/
  | ldcSr (m : Reg)
  /-- `LDC Rm,GBR`, rule R365. -/
  | ldcGbr (m : Reg)
  /-- `LDC Rm,VBR`, rule R366. -/
  | ldcVbr (m : Reg)
  /-- `LDC.L @Rm+,SR`, rule R367. -/
  | ldcLSr (m : Reg)
  /-- `LDC.L @Rm+,GBR`, rule R368. -/
  | ldcLGbr (m : Reg)
  /-- `LDC.L @Rm+,VBR`, rule R369. -/
  | ldcLVbr (m : Reg)
  /-- `LDS Rm,MACH`, rule R370. -/
  | ldsMach (m : Reg)
  /-- `LDS Rm,MACL`, rule R371. -/
  | ldsMacl (m : Reg)
  /-- `LDS Rm,PR`, rule R372. -/
  | ldsPr (m : Reg)
  /-- `LDS.L @Rm+,MACH`, rule R373. -/
  | ldsLMach (m : Reg)
  /-- `LDS.L @Rm+,MACL`, rule R374. -/
  | ldsLMacl (m : Reg)
  /-- `LDS.L @Rm+,PR`, rule R375. -/
  | ldsLPr (m : Reg)
  /-- `NOP`, rule R376. -/
  | nop
  /-- `RTE`, rule R377. -/
  | rte
  /-- `SETT`, rule R378. -/
  | sett
  /-- `SLEEP`, rule R379. -/
  | sleep
  /-- `STC SR,Rn`, rule R380. -/
  | stcSr (n : Reg)
  /-- `STC GBR,Rn`, rule R381. -/
  | stcGbr (n : Reg)
  /-- `STC VBR,Rn`, rule R382. -/
  | stcVbr (n : Reg)
  /-- `STC.L SR,@-Rn`, rule R383. -/
  | stcLSr (n : Reg)
  /-- `STC.L GBR,@-Rn`, rule R384. -/
  | stcLGbr (n : Reg)
  /-- `STC.L VBR,@-Rn`, rule R385. -/
  | stcLVbr (n : Reg)
  /-- `STS MACH,Rn`, rule R386. -/
  | stsMach (n : Reg)
  /-- `STS MACL,Rn`, rule R387. -/
  | stsMacl (n : Reg)
  /-- `STS PR,Rn`, rule R388. -/
  | stsPr (n : Reg)
  /-- `STS.L MACH,@-Rn`, rule R389. -/
  | stsLMach (n : Reg)
  /-- `STS.L MACL,@-Rn`, rule R390. -/
  | stsLMacl (n : Reg)
  /-- `STS.L PR,@-Rn`, rule R391. -/
  | stsLPr (n : Reg)
  /-- `TRAPA #imm`, rule R392. -/
  | trapa (i : BitVec 8)
  -- Floating-point instructions (spec/46_floating_point.md)
  /-- `FABS FRn`, rule R428. -/
  | fabs (n : FReg)
  /-- `FADD FRm,FRn`, rule R429. -/
  | fadd (m : FReg) (n : FReg)
  /-- `FCMP/EQ FRm,FRn`, rule R430. -/
  | fcmpEq (m : FReg) (n : FReg)
  /-- `FCMP/GT FRm,FRn`, rule R431. -/
  | fcmpGt (m : FReg) (n : FReg)
  /-- `FDIV FRm,FRn`, rule R433. -/
  | fdiv (m : FReg) (n : FReg)
  /-- `FLDI0 FRn`, rule R434. -/
  | fldi0 (n : FReg)
  /-- `FLDI1 FRn`, rule R435. -/
  | fldi1 (n : FReg)
  /-- `FLDS FRm,FPUL`, rule R436. -/
  | flds (m : FReg)
  /-- `FLOAT FPUL,FRn`, rule R437. -/
  | float (n : FReg)
  /-- `FMAC FR0,FRm,FRn`, rule R438. -/
  | fmac (m : FReg) (n : FReg)
  /-- `FMOV FRm,FRn`, rule R439. -/
  | fmov (m : FReg) (n : FReg)
  /-- `FMOV.S @(R0,Rm),FRn`, rule R440. -/
  | fmovLoadR0 (m : Reg) (n : FReg)
  /-- `FMOV.S @Rm+,FRn`, rule R441. -/
  | fmovPostInc (m : Reg) (n : FReg)
  /-- `FMOV.S @Rm,FRn`, rule R442. -/
  | fmovLoad (m : Reg) (n : FReg)
  /-- `FMOV.S FRm,@(R0,Rn)`, rule R443. -/
  | fmovStoreR0 (m : FReg) (n : Reg)
  /-- `FMOV.S FRm,@-Rn`, rule R444. -/
  | fmovPreDec (m : FReg) (n : Reg)
  /-- `FMOV.S FRm,@Rn`, rule R445. -/
  | fmovStore (m : FReg) (n : Reg)
  /-- `FMUL FRm,FRn`, rule R446. -/
  | fmul (m : FReg) (n : FReg)
  /-- `FNEG FRn`, rule R447. -/
  | fneg (n : FReg)
  /-- `FSTS FPUL,FRn`, rule R448. -/
  | fsts (n : FReg)
  /-- `FSUB FRm,FRn`, rule R449. -/
  | fsub (m : FReg) (n : FReg)
  /-- `FTRC FRm,FPUL`, rule R450. -/
  | ftrc (m : FReg)
  -- FPU-related CPU instructions (spec/47_fpu_cpu.md)
  /-- `LDS Rm,FPSCR`, rule R492. -/
  | ldsFpscr (m : Reg)
  /-- `LDS Rm,FPUL`, rule R493. -/
  | ldsFpul (m : Reg)
  /-- `LDS.L @Rm+,FPSCR`, rule R494. -/
  | ldsLFpscr (m : Reg)
  /-- `LDS.L @Rm+,FPUL`, rule R495. -/
  | ldsLFpul (m : Reg)
  /-- `STS FPSCR,Rn`, rule R496. -/
  | stsFpscr (n : Reg)
  /-- `STS FPUL,Rn`, rule R497. -/
  | stsFpul (n : Reg)
  /-- `STS.L FPSCR,@-Rn`, rule R498. -/
  | stsLFpscr (n : Reg)
  /-- `STS.L FPUL,@-Rn`, rule R499. -/
  | stsLFpul (n : Reg)
  deriving DecidableEq, Repr

end Sys2Proof
end

