-- ==== Sys2Proof/Decode.lean ====
section
/-! DEFINITION. The decoder and the encoder of the 16-bit instruction codes (spec/30_encoding.md). The decoder is total:
a code that no instruction owns is rejected under the name `unassignedCode` (rules R115, R116) and the machine raises the
illegal instruction exception for it. A code is read as four nibbles (rule R99: group, then w[11:8], w[7:4] and w[3:0]). -/

namespace Sys2Proof

/-- Why the decoder reads no instruction. -/
inductive Rejection where
  /-- The code is assigned to no instruction (rules R115, R116). Raised by the decoder, and safe: the machine takes the
  illegal instruction exception there. -/
  | unassignedCode (w : Half)
  /-- Fewer than two bytes were given (rule R90: an instruction is exactly 16 bits). Raised by the decoder only; a fetch
  always gives two bytes. Safe. -/
  | truncated
  deriving DecidableEq, Repr

/-- The 16-bit code whose nibbles are, most significant first, `g n m x` (rule R91). -/
def nibbles (g n m x : BitVec 4) : Half := g ++ n ++ m ++ x

/-- Group `0000` (rule R100). -/
def decodeGroup0 (n m x : BitVec 4) : Option Instr :=
  match x with
  | 0x2#4 =>
      match m with
      | 0x0#4 => some (.stcSr n.toFin)
      | 0x1#4 => some (.stcGbr n.toFin)
      | 0x2#4 => some (.stcVbr n.toFin)
      | _ => none
  | 0x3#4 =>
      match m with
      | 0x0#4 => some (.bsrf n.toFin)
      | 0x2#4 => some (.braf n.toFin)
      | _ => none
  | 0x4#4 => some (.movBStoreR0 m.toFin n.toFin)
  | 0x5#4 => some (.movWStoreR0 m.toFin n.toFin)
  | 0x6#4 => some (.movLStoreR0 m.toFin n.toFin)
  | 0x7#4 => some (.mulL m.toFin n.toFin)
  | 0x8#4 =>
      match m with
      | 0x0#4 =>
          match n with
          | 0x0#4 => some .clrt
          | _ => none
      | 0x1#4 =>
          match n with
          | 0x0#4 => some .sett
          | _ => none
      | 0x2#4 =>
          match n with
          | 0x0#4 => some .clrmac
          | _ => none
      | _ => none
  | 0x9#4 =>
      match m with
      | 0x0#4 =>
          match n with
          | 0x0#4 => some .nop
          | _ => none
      | 0x1#4 =>
          match n with
          | 0x0#4 => some .div0u
          | _ => none
      | 0x2#4 => some (.movt n.toFin)
      | _ => none
  | 0xA#4 =>
      match m with
      | 0x0#4 => some (.stsMach n.toFin)
      | 0x1#4 => some (.stsMacl n.toFin)
      | 0x2#4 => some (.stsPr n.toFin)
      | 0x5#4 => some (.stsFpul n.toFin)
      | 0x6#4 => some (.stsFpscr n.toFin)
      | _ => none
  | 0xB#4 =>
      match m with
      | 0x0#4 =>
          match n with
          | 0x0#4 => some .rts
          | _ => none
      | 0x1#4 =>
          match n with
          | 0x0#4 => some .sleep
          | _ => none
      | 0x2#4 =>
          match n with
          | 0x0#4 => some .rte
          | _ => none
      | _ => none
  | 0xC#4 => some (.movBLoadR0 m.toFin n.toFin)
  | 0xD#4 => some (.movWLoadR0 m.toFin n.toFin)
  | 0xE#4 => some (.movLLoadR0 m.toFin n.toFin)
  | 0xF#4 => some (.macL m.toFin n.toFin)
  | _ => none

/-- Group `0001` (rule R101). -/
def decodeGroup1 (n m x : BitVec 4) : Option Instr :=
  some (.movLStoreDisp m.toFin x n.toFin)

/-- Group `0010` (rule R102). -/
def decodeGroup2 (n m x : BitVec 4) : Option Instr :=
  match x with
  | 0x0#4 => some (.movBStore m.toFin n.toFin)
  | 0x1#4 => some (.movWStore m.toFin n.toFin)
  | 0x2#4 => some (.movLStore m.toFin n.toFin)
  | 0x4#4 => some (.movBPreDec m.toFin n.toFin)
  | 0x5#4 => some (.movWPreDec m.toFin n.toFin)
  | 0x6#4 => some (.movLPreDec m.toFin n.toFin)
  | 0x7#4 => some (.div0s m.toFin n.toFin)
  | 0x8#4 => some (.tstReg m.toFin n.toFin)
  | 0x9#4 => some (.andReg m.toFin n.toFin)
  | 0xA#4 => some (.xorReg m.toFin n.toFin)
  | 0xB#4 => some (.orReg m.toFin n.toFin)
  | 0xC#4 => some (.cmpStr m.toFin n.toFin)
  | 0xD#4 => some (.xtrct m.toFin n.toFin)
  | 0xE#4 => some (.muluW m.toFin n.toFin)
  | 0xF#4 => some (.mulsW m.toFin n.toFin)
  | _ => none

/-- Group `0011` (rule R103). -/
def decodeGroup3 (n m x : BitVec 4) : Option Instr :=
  match x with
  | 0x0#4 => some (.cmpEq m.toFin n.toFin)
  | 0x2#4 => some (.cmpHs m.toFin n.toFin)
  | 0x3#4 => some (.cmpGe m.toFin n.toFin)
  | 0x4#4 => some (.div1 m.toFin n.toFin)
  | 0x5#4 => some (.dmuluL m.toFin n.toFin)
  | 0x6#4 => some (.cmpHi m.toFin n.toFin)
  | 0x7#4 => some (.cmpGt m.toFin n.toFin)
  | 0x8#4 => some (.sub m.toFin n.toFin)
  | 0xA#4 => some (.subc m.toFin n.toFin)
  | 0xB#4 => some (.subv m.toFin n.toFin)
  | 0xC#4 => some (.add m.toFin n.toFin)
  | 0xD#4 => some (.dmulsL m.toFin n.toFin)
  | 0xE#4 => some (.addc m.toFin n.toFin)
  | 0xF#4 => some (.addv m.toFin n.toFin)
  | _ => none

/-- Group `0100` (rule R104). -/
def decodeGroup4 (n m x : BitVec 4) : Option Instr :=
  match x with
  | 0x0#4 =>
      match m with
      | 0x0#4 => some (.shll n.toFin)
      | 0x1#4 => some (.dt n.toFin)
      | 0x2#4 => some (.shal n.toFin)
      | _ => none
  | 0x1#4 =>
      match m with
      | 0x0#4 => some (.shlr n.toFin)
      | 0x1#4 => some (.cmpPz n.toFin)
      | 0x2#4 => some (.shar n.toFin)
      | _ => none
  | 0x2#4 =>
      match m with
      | 0x0#4 => some (.stsLMach n.toFin)
      | 0x1#4 => some (.stsLMacl n.toFin)
      | 0x2#4 => some (.stsLPr n.toFin)
      | 0x5#4 => some (.stsLFpul n.toFin)
      | 0x6#4 => some (.stsLFpscr n.toFin)
      | _ => none
  | 0x3#4 =>
      match m with
      | 0x0#4 => some (.stcLSr n.toFin)
      | 0x1#4 => some (.stcLGbr n.toFin)
      | 0x2#4 => some (.stcLVbr n.toFin)
      | _ => none
  | 0x4#4 =>
      match m with
      | 0x0#4 => some (.rotl n.toFin)
      | 0x2#4 => some (.rotcl n.toFin)
      | _ => none
  | 0x5#4 =>
      match m with
      | 0x0#4 => some (.rotr n.toFin)
      | 0x1#4 => some (.cmpPl n.toFin)
      | 0x2#4 => some (.rotcr n.toFin)
      | _ => none
  | 0x6#4 =>
      match m with
      | 0x0#4 => some (.ldsLMach n.toFin)
      | 0x1#4 => some (.ldsLMacl n.toFin)
      | 0x2#4 => some (.ldsLPr n.toFin)
      | 0x5#4 => some (.ldsLFpul n.toFin)
      | 0x6#4 => some (.ldsLFpscr n.toFin)
      | _ => none
  | 0x7#4 =>
      match m with
      | 0x0#4 => some (.ldcLSr n.toFin)
      | 0x1#4 => some (.ldcLGbr n.toFin)
      | 0x2#4 => some (.ldcLVbr n.toFin)
      | _ => none
  | 0x8#4 =>
      match m with
      | 0x0#4 => some (.shll2 n.toFin)
      | 0x1#4 => some (.shll8 n.toFin)
      | 0x2#4 => some (.shll16 n.toFin)
      | _ => none
  | 0x9#4 =>
      match m with
      | 0x0#4 => some (.shlr2 n.toFin)
      | 0x1#4 => some (.shlr8 n.toFin)
      | 0x2#4 => some (.shlr16 n.toFin)
      | _ => none
  | 0xA#4 =>
      match m with
      | 0x0#4 => some (.ldsMach n.toFin)
      | 0x1#4 => some (.ldsMacl n.toFin)
      | 0x2#4 => some (.ldsPr n.toFin)
      | 0x5#4 => some (.ldsFpul n.toFin)
      | 0x6#4 => some (.ldsFpscr n.toFin)
      | _ => none
  | 0xB#4 =>
      match m with
      | 0x0#4 => some (.jsr n.toFin)
      | 0x1#4 => some (.tasB n.toFin)
      | 0x2#4 => some (.jmp n.toFin)
      | _ => none
  | 0xE#4 =>
      match m with
      | 0x0#4 => some (.ldcSr n.toFin)
      | 0x1#4 => some (.ldcGbr n.toFin)
      | 0x2#4 => some (.ldcVbr n.toFin)
      | _ => none
  | 0xF#4 => some (.macW m.toFin n.toFin)
  | _ => none

/-- Group `0101` (rule R105). -/
def decodeGroup5 (n m x : BitVec 4) : Option Instr :=
  some (.movLLoadDisp x m.toFin n.toFin)

/-- Group `0110` (rule R106). -/
def decodeGroup6 (n m x : BitVec 4) : Option Instr :=
  match x with
  | 0x0#4 => some (.movBLoad m.toFin n.toFin)
  | 0x1#4 => some (.movWLoad m.toFin n.toFin)
  | 0x2#4 => some (.movLLoad m.toFin n.toFin)
  | 0x3#4 => some (.mov m.toFin n.toFin)
  | 0x4#4 => some (.movBPostInc m.toFin n.toFin)
  | 0x5#4 => some (.movWPostInc m.toFin n.toFin)
  | 0x6#4 => some (.movLPostInc m.toFin n.toFin)
  | 0x7#4 => some (.notReg m.toFin n.toFin)
  | 0x8#4 => some (.swapB m.toFin n.toFin)
  | 0x9#4 => some (.swapW m.toFin n.toFin)
  | 0xA#4 => some (.negc m.toFin n.toFin)
  | 0xB#4 => some (.neg m.toFin n.toFin)
  | 0xC#4 => some (.extuB m.toFin n.toFin)
  | 0xD#4 => some (.extuW m.toFin n.toFin)
  | 0xE#4 => some (.extsB m.toFin n.toFin)
  | _ => some (.extsW m.toFin n.toFin)

/-- Group `0111` (rule R107). -/
def decodeGroup7 (n m x : BitVec 4) : Option Instr :=
  some (.addImm (m ++ x) n.toFin)

/-- Group `1000` (rule R108). -/
def decodeGroup8 (n m x : BitVec 4) : Option Instr :=
  match n with
  | 0x0#4 => some (.movBStoreDisp x m.toFin)
  | 0x1#4 => some (.movWStoreDisp x m.toFin)
  | 0x4#4 => some (.movBLoadDisp x m.toFin)
  | 0x5#4 => some (.movWLoadDisp x m.toFin)
  | 0x8#4 => some (.cmpEqImm (m ++ x))
  | 0x9#4 => some (.bt (m ++ x))
  | 0xB#4 => some (.bf (m ++ x))
  | 0xD#4 => some (.btS (m ++ x))
  | 0xF#4 => some (.bfS (m ++ x))
  | _ => none

/-- Group `1001` (rule R109). -/
def decodeGroup9 (n m x : BitVec 4) : Option Instr :=
  some (.movWPc (m ++ x) n.toFin)

/-- Group `1010` (rule R110). -/
def decodeGroupA (n m x : BitVec 4) : Option Instr :=
  some (.bra (n ++ m ++ x))

/-- Group `1011` (rule R110). -/
def decodeGroupB (n m x : BitVec 4) : Option Instr :=
  some (.bsr (n ++ m ++ x))

/-- Group `1100` (rule R111). -/
def decodeGroupC (n m x : BitVec 4) : Option Instr :=
  match n with
  | 0x0#4 => some (.movBStoreGbr (m ++ x))
  | 0x1#4 => some (.movWStoreGbr (m ++ x))
  | 0x2#4 => some (.movLStoreGbr (m ++ x))
  | 0x3#4 => some (.trapa (m ++ x))
  | 0x4#4 => some (.movBLoadGbr (m ++ x))
  | 0x5#4 => some (.movWLoadGbr (m ++ x))
  | 0x6#4 => some (.movLLoadGbr (m ++ x))
  | 0x7#4 => some (.mova (m ++ x))
  | 0x8#4 => some (.tstImm (m ++ x))
  | 0x9#4 => some (.andImm (m ++ x))
  | 0xA#4 => some (.xorImm (m ++ x))
  | 0xB#4 => some (.orImm (m ++ x))
  | 0xC#4 => some (.tstB (m ++ x))
  | 0xD#4 => some (.andB (m ++ x))
  | 0xE#4 => some (.xorB (m ++ x))
  | _ => some (.orB (m ++ x))

/-- Group `1101` (rule R109). -/
def decodeGroupD (n m x : BitVec 4) : Option Instr :=
  some (.movLPc (m ++ x) n.toFin)

/-- Group `1110` (rule R107). -/
def decodeGroupE (n m x : BitVec 4) : Option Instr :=
  some (.movImm (m ++ x) n.toFin)

/-- Group `1111` (rule R112). -/
def decodeGroupF (n m x : BitVec 4) : Option Instr :=
  match x with
  | 0x0#4 => some (.fadd m.toFin n.toFin)
  | 0x1#4 => some (.fsub m.toFin n.toFin)
  | 0x2#4 => some (.fmul m.toFin n.toFin)
  | 0x3#4 => some (.fdiv m.toFin n.toFin)
  | 0x4#4 => some (.fcmpEq m.toFin n.toFin)
  | 0x5#4 => some (.fcmpGt m.toFin n.toFin)
  | 0x6#4 => some (.fmovLoadR0 m.toFin n.toFin)
  | 0x7#4 => some (.fmovStoreR0 m.toFin n.toFin)
  | 0x8#4 => some (.fmovLoad m.toFin n.toFin)
  | 0x9#4 => some (.fmovPostInc m.toFin n.toFin)
  | 0xA#4 => some (.fmovStore m.toFin n.toFin)
  | 0xB#4 => some (.fmovPreDec m.toFin n.toFin)
  | 0xC#4 => some (.fmov m.toFin n.toFin)
  | 0xD#4 =>
      match m with
      | 0x0#4 => some (.fsts n.toFin)
      | 0x1#4 => some (.flds n.toFin)
      | 0x2#4 => some (.float n.toFin)
      | 0x3#4 => some (.ftrc n.toFin)
      | 0x4#4 => some (.fneg n.toFin)
      | 0x5#4 => some (.fabs n.toFin)
      | 0x8#4 => some (.fldi0 n.toFin)
      | 0x9#4 => some (.fldi1 n.toFin)
      | _ => none
  | 0xE#4 => some (.fmac m.toFin n.toFin)
  | _ => none

/-- The instruction whose code has the nibbles `g n m x`, if some instruction owns that code (rule R99: bits 15 to 12
select the group). -/
def decodeNibbles (g n m x : BitVec 4) : Option Instr :=
  match g with
  | 0x0#4 => decodeGroup0 n m x
  | 0x1#4 => decodeGroup1 n m x
  | 0x2#4 => decodeGroup2 n m x
  | 0x3#4 => decodeGroup3 n m x
  | 0x4#4 => decodeGroup4 n m x
  | 0x5#4 => decodeGroup5 n m x
  | 0x6#4 => decodeGroup6 n m x
  | 0x7#4 => decodeGroup7 n m x
  | 0x8#4 => decodeGroup8 n m x
  | 0x9#4 => decodeGroup9 n m x
  | 0xA#4 => decodeGroupA n m x
  | 0xB#4 => decodeGroupB n m x
  | 0xC#4 => decodeGroupC n m x
  | 0xD#4 => decodeGroupD n m x
  | 0xE#4 => decodeGroupE n m x
  | _ => decodeGroupF n m x

/-- The instruction a 16-bit code stands for, `none` for an unassigned code (rules R99, R115). -/
def decodeWord (w : Half) : Option Instr :=
  decodeNibbles (w.extractLsb' 12 4) (w.extractLsb' 8 4) (w.extractLsb' 4 4) (w.extractLsb' 0 4)

/-- Decode the first instruction of a sequence of bytes: two bytes, the one at the lower address in bits 15 to 8 of the
code (rules R61, R90); answers the instruction and the bytes after it, or a rejection by name. -/
def decode : List Byte → Except Rejection (Instr × List Byte)
  | hi :: lo :: rest =>
    match decodeWord (hi ++ lo) with
    | some i => .ok (i, rest)
    | none => .error (.unassignedCode (hi ++ lo))
  | _ => .error .truncated

/-- The code of an instruction (the encoding column of `spec/opcode_table.json`). -/
def encodeWord : Instr → Half
  | .movImm i n => nibbles 0xE#4 (.ofFin n) (i.extractLsb' 4 4) (i.extractLsb' 0 4)
  | .movWPc d n => nibbles 0x9#4 (.ofFin n) (d.extractLsb' 4 4) (d.extractLsb' 0 4)
  | .movLPc d n => nibbles 0xD#4 (.ofFin n) (d.extractLsb' 4 4) (d.extractLsb' 0 4)
  | .mov m n => nibbles 0x6#4 (.ofFin n) (.ofFin m) 0x3#4
  | .movBStore m n => nibbles 0x2#4 (.ofFin n) (.ofFin m) 0x0#4
  | .movWStore m n => nibbles 0x2#4 (.ofFin n) (.ofFin m) 0x1#4
  | .movLStore m n => nibbles 0x2#4 (.ofFin n) (.ofFin m) 0x2#4
  | .movBLoad m n => nibbles 0x6#4 (.ofFin n) (.ofFin m) 0x0#4
  | .movWLoad m n => nibbles 0x6#4 (.ofFin n) (.ofFin m) 0x1#4
  | .movLLoad m n => nibbles 0x6#4 (.ofFin n) (.ofFin m) 0x2#4
  | .movBPreDec m n => nibbles 0x2#4 (.ofFin n) (.ofFin m) 0x4#4
  | .movWPreDec m n => nibbles 0x2#4 (.ofFin n) (.ofFin m) 0x5#4
  | .movLPreDec m n => nibbles 0x2#4 (.ofFin n) (.ofFin m) 0x6#4
  | .movBPostInc m n => nibbles 0x6#4 (.ofFin n) (.ofFin m) 0x4#4
  | .movWPostInc m n => nibbles 0x6#4 (.ofFin n) (.ofFin m) 0x5#4
  | .movLPostInc m n => nibbles 0x6#4 (.ofFin n) (.ofFin m) 0x6#4
  | .movBStoreDisp d n => nibbles 0x8#4 0x0#4 (.ofFin n) d
  | .movWStoreDisp d n => nibbles 0x8#4 0x1#4 (.ofFin n) d
  | .movLStoreDisp m d n => nibbles 0x1#4 (.ofFin n) (.ofFin m) d
  | .movBLoadDisp d m => nibbles 0x8#4 0x4#4 (.ofFin m) d
  | .movWLoadDisp d m => nibbles 0x8#4 0x5#4 (.ofFin m) d
  | .movLLoadDisp d m n => nibbles 0x5#4 (.ofFin n) (.ofFin m) d
  | .movBStoreR0 m n => nibbles 0x0#4 (.ofFin n) (.ofFin m) 0x4#4
  | .movWStoreR0 m n => nibbles 0x0#4 (.ofFin n) (.ofFin m) 0x5#4
  | .movLStoreR0 m n => nibbles 0x0#4 (.ofFin n) (.ofFin m) 0x6#4
  | .movBLoadR0 m n => nibbles 0x0#4 (.ofFin n) (.ofFin m) 0xC#4
  | .movWLoadR0 m n => nibbles 0x0#4 (.ofFin n) (.ofFin m) 0xD#4
  | .movLLoadR0 m n => nibbles 0x0#4 (.ofFin n) (.ofFin m) 0xE#4
  | .movBStoreGbr d => nibbles 0xC#4 0x0#4 (d.extractLsb' 4 4) (d.extractLsb' 0 4)
  | .movWStoreGbr d => nibbles 0xC#4 0x1#4 (d.extractLsb' 4 4) (d.extractLsb' 0 4)
  | .movLStoreGbr d => nibbles 0xC#4 0x2#4 (d.extractLsb' 4 4) (d.extractLsb' 0 4)
  | .movBLoadGbr d => nibbles 0xC#4 0x4#4 (d.extractLsb' 4 4) (d.extractLsb' 0 4)
  | .movWLoadGbr d => nibbles 0xC#4 0x5#4 (d.extractLsb' 4 4) (d.extractLsb' 0 4)
  | .movLLoadGbr d => nibbles 0xC#4 0x6#4 (d.extractLsb' 4 4) (d.extractLsb' 0 4)
  | .mova d => nibbles 0xC#4 0x7#4 (d.extractLsb' 4 4) (d.extractLsb' 0 4)
  | .movt n => nibbles 0x0#4 (.ofFin n) 0x2#4 0x9#4
  | .swapB m n => nibbles 0x6#4 (.ofFin n) (.ofFin m) 0x8#4
  | .swapW m n => nibbles 0x6#4 (.ofFin n) (.ofFin m) 0x9#4
  | .xtrct m n => nibbles 0x2#4 (.ofFin n) (.ofFin m) 0xD#4
  | .add m n => nibbles 0x3#4 (.ofFin n) (.ofFin m) 0xC#4
  | .addImm i n => nibbles 0x7#4 (.ofFin n) (i.extractLsb' 4 4) (i.extractLsb' 0 4)
  | .addc m n => nibbles 0x3#4 (.ofFin n) (.ofFin m) 0xE#4
  | .addv m n => nibbles 0x3#4 (.ofFin n) (.ofFin m) 0xF#4
  | .cmpEqImm i => nibbles 0x8#4 0x8#4 (i.extractLsb' 4 4) (i.extractLsb' 0 4)
  | .cmpEq m n => nibbles 0x3#4 (.ofFin n) (.ofFin m) 0x0#4
  | .cmpHs m n => nibbles 0x3#4 (.ofFin n) (.ofFin m) 0x2#4
  | .cmpGe m n => nibbles 0x3#4 (.ofFin n) (.ofFin m) 0x3#4
  | .cmpHi m n => nibbles 0x3#4 (.ofFin n) (.ofFin m) 0x6#4
  | .cmpGt m n => nibbles 0x3#4 (.ofFin n) (.ofFin m) 0x7#4
  | .cmpPl n => nibbles 0x4#4 (.ofFin n) 0x1#4 0x5#4
  | .cmpPz n => nibbles 0x4#4 (.ofFin n) 0x1#4 0x1#4
  | .cmpStr m n => nibbles 0x2#4 (.ofFin n) (.ofFin m) 0xC#4
  | .div1 m n => nibbles 0x3#4 (.ofFin n) (.ofFin m) 0x4#4
  | .div0s m n => nibbles 0x2#4 (.ofFin n) (.ofFin m) 0x7#4
  | .div0u => nibbles 0x0#4 0x0#4 0x1#4 0x9#4
  | .dmulsL m n => nibbles 0x3#4 (.ofFin n) (.ofFin m) 0xD#4
  | .dmuluL m n => nibbles 0x3#4 (.ofFin n) (.ofFin m) 0x5#4
  | .dt n => nibbles 0x4#4 (.ofFin n) 0x1#4 0x0#4
  | .extsB m n => nibbles 0x6#4 (.ofFin n) (.ofFin m) 0xE#4
  | .extsW m n => nibbles 0x6#4 (.ofFin n) (.ofFin m) 0xF#4
  | .extuB m n => nibbles 0x6#4 (.ofFin n) (.ofFin m) 0xC#4
  | .extuW m n => nibbles 0x6#4 (.ofFin n) (.ofFin m) 0xD#4
  | .macL m n => nibbles 0x0#4 (.ofFin n) (.ofFin m) 0xF#4
  | .macW m n => nibbles 0x4#4 (.ofFin n) (.ofFin m) 0xF#4
  | .mulL m n => nibbles 0x0#4 (.ofFin n) (.ofFin m) 0x7#4
  | .mulsW m n => nibbles 0x2#4 (.ofFin n) (.ofFin m) 0xF#4
  | .muluW m n => nibbles 0x2#4 (.ofFin n) (.ofFin m) 0xE#4
  | .neg m n => nibbles 0x6#4 (.ofFin n) (.ofFin m) 0xB#4
  | .negc m n => nibbles 0x6#4 (.ofFin n) (.ofFin m) 0xA#4
  | .sub m n => nibbles 0x3#4 (.ofFin n) (.ofFin m) 0x8#4
  | .subc m n => nibbles 0x3#4 (.ofFin n) (.ofFin m) 0xA#4
  | .subv m n => nibbles 0x3#4 (.ofFin n) (.ofFin m) 0xB#4
  | .andReg m n => nibbles 0x2#4 (.ofFin n) (.ofFin m) 0x9#4
  | .andImm i => nibbles 0xC#4 0x9#4 (i.extractLsb' 4 4) (i.extractLsb' 0 4)
  | .andB i => nibbles 0xC#4 0xD#4 (i.extractLsb' 4 4) (i.extractLsb' 0 4)
  | .notReg m n => nibbles 0x6#4 (.ofFin n) (.ofFin m) 0x7#4
  | .orReg m n => nibbles 0x2#4 (.ofFin n) (.ofFin m) 0xB#4
  | .orImm i => nibbles 0xC#4 0xB#4 (i.extractLsb' 4 4) (i.extractLsb' 0 4)
  | .orB i => nibbles 0xC#4 0xF#4 (i.extractLsb' 4 4) (i.extractLsb' 0 4)
  | .tasB n => nibbles 0x4#4 (.ofFin n) 0x1#4 0xB#4
  | .tstReg m n => nibbles 0x2#4 (.ofFin n) (.ofFin m) 0x8#4
  | .tstImm i => nibbles 0xC#4 0x8#4 (i.extractLsb' 4 4) (i.extractLsb' 0 4)
  | .tstB i => nibbles 0xC#4 0xC#4 (i.extractLsb' 4 4) (i.extractLsb' 0 4)
  | .xorReg m n => nibbles 0x2#4 (.ofFin n) (.ofFin m) 0xA#4
  | .xorImm i => nibbles 0xC#4 0xA#4 (i.extractLsb' 4 4) (i.extractLsb' 0 4)
  | .xorB i => nibbles 0xC#4 0xE#4 (i.extractLsb' 4 4) (i.extractLsb' 0 4)
  | .rotl n => nibbles 0x4#4 (.ofFin n) 0x0#4 0x4#4
  | .rotr n => nibbles 0x4#4 (.ofFin n) 0x0#4 0x5#4
  | .rotcl n => nibbles 0x4#4 (.ofFin n) 0x2#4 0x4#4
  | .rotcr n => nibbles 0x4#4 (.ofFin n) 0x2#4 0x5#4
  | .shal n => nibbles 0x4#4 (.ofFin n) 0x2#4 0x0#4
  | .shar n => nibbles 0x4#4 (.ofFin n) 0x2#4 0x1#4
  | .shll n => nibbles 0x4#4 (.ofFin n) 0x0#4 0x0#4
  | .shlr n => nibbles 0x4#4 (.ofFin n) 0x0#4 0x1#4
  | .shll2 n => nibbles 0x4#4 (.ofFin n) 0x0#4 0x8#4
  | .shlr2 n => nibbles 0x4#4 (.ofFin n) 0x0#4 0x9#4
  | .shll8 n => nibbles 0x4#4 (.ofFin n) 0x1#4 0x8#4
  | .shlr8 n => nibbles 0x4#4 (.ofFin n) 0x1#4 0x9#4
  | .shll16 n => nibbles 0x4#4 (.ofFin n) 0x2#4 0x8#4
  | .shlr16 n => nibbles 0x4#4 (.ofFin n) 0x2#4 0x9#4
  | .bf d => nibbles 0x8#4 0xB#4 (d.extractLsb' 4 4) (d.extractLsb' 0 4)
  | .bfS d => nibbles 0x8#4 0xF#4 (d.extractLsb' 4 4) (d.extractLsb' 0 4)
  | .bt d => nibbles 0x8#4 0x9#4 (d.extractLsb' 4 4) (d.extractLsb' 0 4)
  | .btS d => nibbles 0x8#4 0xD#4 (d.extractLsb' 4 4) (d.extractLsb' 0 4)
  | .bra d => nibbles 0xA#4 (d.extractLsb' 8 4) (d.extractLsb' 4 4) (d.extractLsb' 0 4)
  | .braf m => nibbles 0x0#4 (.ofFin m) 0x2#4 0x3#4
  | .bsr d => nibbles 0xB#4 (d.extractLsb' 8 4) (d.extractLsb' 4 4) (d.extractLsb' 0 4)
  | .bsrf m => nibbles 0x0#4 (.ofFin m) 0x0#4 0x3#4
  | .jmp m => nibbles 0x4#4 (.ofFin m) 0x2#4 0xB#4
  | .jsr m => nibbles 0x4#4 (.ofFin m) 0x0#4 0xB#4
  | .rts => nibbles 0x0#4 0x0#4 0x0#4 0xB#4
  | .clrt => nibbles 0x0#4 0x0#4 0x0#4 0x8#4
  | .clrmac => nibbles 0x0#4 0x0#4 0x2#4 0x8#4
  | .ldcSr m => nibbles 0x4#4 (.ofFin m) 0x0#4 0xE#4
  | .ldcGbr m => nibbles 0x4#4 (.ofFin m) 0x1#4 0xE#4
  | .ldcVbr m => nibbles 0x4#4 (.ofFin m) 0x2#4 0xE#4
  | .ldcLSr m => nibbles 0x4#4 (.ofFin m) 0x0#4 0x7#4
  | .ldcLGbr m => nibbles 0x4#4 (.ofFin m) 0x1#4 0x7#4
  | .ldcLVbr m => nibbles 0x4#4 (.ofFin m) 0x2#4 0x7#4
  | .ldsMach m => nibbles 0x4#4 (.ofFin m) 0x0#4 0xA#4
  | .ldsMacl m => nibbles 0x4#4 (.ofFin m) 0x1#4 0xA#4
  | .ldsPr m => nibbles 0x4#4 (.ofFin m) 0x2#4 0xA#4
  | .ldsLMach m => nibbles 0x4#4 (.ofFin m) 0x0#4 0x6#4
  | .ldsLMacl m => nibbles 0x4#4 (.ofFin m) 0x1#4 0x6#4
  | .ldsLPr m => nibbles 0x4#4 (.ofFin m) 0x2#4 0x6#4
  | .nop => nibbles 0x0#4 0x0#4 0x0#4 0x9#4
  | .rte => nibbles 0x0#4 0x0#4 0x2#4 0xB#4
  | .sett => nibbles 0x0#4 0x0#4 0x1#4 0x8#4
  | .sleep => nibbles 0x0#4 0x0#4 0x1#4 0xB#4
  | .stcSr n => nibbles 0x0#4 (.ofFin n) 0x0#4 0x2#4
  | .stcGbr n => nibbles 0x0#4 (.ofFin n) 0x1#4 0x2#4
  | .stcVbr n => nibbles 0x0#4 (.ofFin n) 0x2#4 0x2#4
  | .stcLSr n => nibbles 0x4#4 (.ofFin n) 0x0#4 0x3#4
  | .stcLGbr n => nibbles 0x4#4 (.ofFin n) 0x1#4 0x3#4
  | .stcLVbr n => nibbles 0x4#4 (.ofFin n) 0x2#4 0x3#4
  | .stsMach n => nibbles 0x0#4 (.ofFin n) 0x0#4 0xA#4
  | .stsMacl n => nibbles 0x0#4 (.ofFin n) 0x1#4 0xA#4
  | .stsPr n => nibbles 0x0#4 (.ofFin n) 0x2#4 0xA#4
  | .stsLMach n => nibbles 0x4#4 (.ofFin n) 0x0#4 0x2#4
  | .stsLMacl n => nibbles 0x4#4 (.ofFin n) 0x1#4 0x2#4
  | .stsLPr n => nibbles 0x4#4 (.ofFin n) 0x2#4 0x2#4
  | .trapa i => nibbles 0xC#4 0x3#4 (i.extractLsb' 4 4) (i.extractLsb' 0 4)
  | .fabs n => nibbles 0xF#4 (.ofFin n) 0x5#4 0xD#4
  | .fadd m n => nibbles 0xF#4 (.ofFin n) (.ofFin m) 0x0#4
  | .fcmpEq m n => nibbles 0xF#4 (.ofFin n) (.ofFin m) 0x4#4
  | .fcmpGt m n => nibbles 0xF#4 (.ofFin n) (.ofFin m) 0x5#4
  | .fdiv m n => nibbles 0xF#4 (.ofFin n) (.ofFin m) 0x3#4
  | .fldi0 n => nibbles 0xF#4 (.ofFin n) 0x8#4 0xD#4
  | .fldi1 n => nibbles 0xF#4 (.ofFin n) 0x9#4 0xD#4
  | .flds m => nibbles 0xF#4 (.ofFin m) 0x1#4 0xD#4
  | .float n => nibbles 0xF#4 (.ofFin n) 0x2#4 0xD#4
  | .fmac m n => nibbles 0xF#4 (.ofFin n) (.ofFin m) 0xE#4
  | .fmov m n => nibbles 0xF#4 (.ofFin n) (.ofFin m) 0xC#4
  | .fmovLoadR0 m n => nibbles 0xF#4 (.ofFin n) (.ofFin m) 0x6#4
  | .fmovPostInc m n => nibbles 0xF#4 (.ofFin n) (.ofFin m) 0x9#4
  | .fmovLoad m n => nibbles 0xF#4 (.ofFin n) (.ofFin m) 0x8#4
  | .fmovStoreR0 m n => nibbles 0xF#4 (.ofFin n) (.ofFin m) 0x7#4
  | .fmovPreDec m n => nibbles 0xF#4 (.ofFin n) (.ofFin m) 0xB#4
  | .fmovStore m n => nibbles 0xF#4 (.ofFin n) (.ofFin m) 0xA#4
  | .fmul m n => nibbles 0xF#4 (.ofFin n) (.ofFin m) 0x2#4
  | .fneg n => nibbles 0xF#4 (.ofFin n) 0x4#4 0xD#4
  | .fsts n => nibbles 0xF#4 (.ofFin n) 0x0#4 0xD#4
  | .fsub m n => nibbles 0xF#4 (.ofFin n) (.ofFin m) 0x1#4
  | .ftrc m => nibbles 0xF#4 (.ofFin m) 0x3#4 0xD#4
  | .ldsFpscr m => nibbles 0x4#4 (.ofFin m) 0x6#4 0xA#4
  | .ldsFpul m => nibbles 0x4#4 (.ofFin m) 0x5#4 0xA#4
  | .ldsLFpscr m => nibbles 0x4#4 (.ofFin m) 0x6#4 0x6#4
  | .ldsLFpul m => nibbles 0x4#4 (.ofFin m) 0x5#4 0x6#4
  | .stsFpscr n => nibbles 0x0#4 (.ofFin n) 0x6#4 0xA#4
  | .stsFpul n => nibbles 0x0#4 (.ofFin n) 0x5#4 0xA#4
  | .stsLFpscr n => nibbles 0x4#4 (.ofFin n) 0x6#4 0x2#4
  | .stsLFpul n => nibbles 0x4#4 (.ofFin n) 0x5#4 0x2#4

/-- The bytes of an instruction as memory holds them, the byte at the lower address first (rules R61, R90). -/
def encode (i : Instr) : List Byte :=
  [(encodeWord i).extractLsb' 8 8, (encodeWord i).extractLsb' 0 8]

/-- The instruction the decoder reads from a row of the opcode table: `w` holds its bits, bit 0 the least significant bit
of its only word, with every bit from `nbits` on zero; the word is laid out big-endian and given to `decode`. -/
def decodeTableWord (nbits w : Nat) : Option Instr :=
  let code : Half := BitVec.ofNat 16 (w % 2 ^ nbits)
  match decode [code.extractLsb' 8 8, code.extractLsb' 0 8] with
  | .ok (i, _) => some i
  | .error _ => none

end Sys2Proof
end

