-- ==== Sys2Proof/Config.lean ====
section
/-! DEFINITION. What the spec leaves to the platform (spec/92_eei_decisions.md, "Named parameters") and the values it leaves
free. The parameters are plain data, held in the machine's state, so that a statement about every state is a statement
about every platform; the defaults below are those of the reset state. The free values are opaque constants with no body:
nothing can be proved of the value one of them takes. -/

namespace Sys2Proof.Config

/-- What an access is for: the `kind` argument of the parameter `MemMap`. -/
inductive AccessKind where
  /-- An instruction fetch (rule R64). -/
  | fetch
  /-- A data read. -/
  | read
  /-- A data write. -/
  | write
  deriving DecidableEq, Repr

/-- The width of an access (rule R67). -/
inductive Width where
  | byte
  | word
  | long
  deriving DecidableEq, Repr

/-- What an address is backed by: the result of the parameter `MemMap`. -/
inductive Backing where
  /-- Ordinary memory. -/
  | ram
  /-- The device with this number, whose behaviour the spec does not give. -/
  | device (d : Nat)
  /-- Nothing: an undefined or reserved address (spec/93_implementation_defined.md, U3). -/
  | none
  /-- The platform raises an address error for this access (rule R516, decision D7). -/
  | addressError
  deriving DecidableEq, Repr

/-- One region of the memory map: the `size` bytes from `base`, for accesses of the given kind and width (`none`: of any),
and what backs them. Which region an access falls in is decided by its first byte (log entry 30). -/
structure Region where
  base : Nat
  size : Nat
  kind : Option AccessKind
  width : Option Width
  backing : Backing
  deriving DecidableEq, Repr

/-- The parameter `VecNum`: the vector numbers of the events other than TRAPA and the interrupts below NMI, whose number
comes with the instruction or the request (rules R514, R543, decision D2). The FPU exception's number, 13, is the spec's own (rule R513) and is
no parameter. -/
structure VecNum where
  generalIllegal : BitVec 8
  slotIllegal : BitVec 8
  addressError : BitVec 8
  /-- NMI, the request of level 16 (rule R543). -/
  nmi : BitVec 8
  /-- User break, a request of level 15 (rule R543). -/
  userBreak : BitVec 8
  deriving DecidableEq, Repr

/-- The parameters that stay as they are while the machine runs. -/
structure Platform where
  /-- `MemMap` (decision D6): the first region an access falls in decides; an access in no region is to RAM. -/
  memMap : List Region
  /-- `VecNum` (decision D2). -/
  vec : VecNum
  /-- `FpuExcSkid` (decision D11): how many instructions at most complete between the raise of an FPU exception and its
  acceptance. -/
  fpuExcSkid : Nat
  /-- `ResetVectorAddr` (decision D17): where a power-on reset finds the initial PC, with the initial SP 4 bytes above. -/
  resetVectorAddr : Word
  /-- The same address for a manual reset (rule R572). -/
  manualResetVectorAddr : Word
  deriving DecidableEq, Repr

/-- The defaults of rule R514. PRESUMED: the spec marks them as the SH-2 family's assignment, from general knowledge (log
entry 4). -/
def defaultVecNum : VecNum := { generalIllegal := 4, slotIllegal := 6, addressError := 9, nmi := 11, userBreak := 12 }

/-- The defaults of spec/92_eei_decisions.md: all 2^32 bytes RAM, no FPU exception skid, reset vector at address 0.
PRESUMED where the spec marks a default as general knowledge (log entries 4 and 5). -/
def defaultPlatform : Platform where
  memMap := []
  vec := defaultVecNum
  fpuExcSkid := 0
  resetVectorAddr := 0x00000000#32
  manualResetVectorAddr := 0x00000008#32

/-- The two kinds of reset event (rule R572). -/
inductive ResetKind where
  | powerOn
  | manual
  deriving DecidableEq, Repr

/-- An interrupt request (rule R520): its level, 1 to 15 maskable and 16 for NMI, its vector number (for NMI that of the
parameter `VecNum`, rule R543), and a name. -/
structure IrqRequest where
  level : Nat
  vector : BitVec 8
  id : Nat
  deriving DecidableEq, Repr

/-- What the platform does around one step of the CPU: the requests it offers (`IrqSource`, rule R520), the FPU's module
stop input (`FpuStopped`, rule R523), a reset event, and the bytes that other bus masters write: entry `k` of `busWrites`
before access `k` of the step, its instruction fetch or vector read being access 0 (rule R74, decision D16). -/
structure PlatformInput where
  irq : List IrqRequest
  fpuStopped : Bool
  reset : Option ResetKind
  busWrites : List (List Host.Cell)
  deriving DecidableEq, Repr

/-- FREE VALUE: the value of an undefined register after a reset event, for the count of free values drawn so far (decision
D18, log entry 19). -/
opaque freeWord : Nat → Word

/-- FREE VALUE: the value of an undefined bit of SR after a reset event (decision D18, log entry 19). -/
opaque freeBit : Nat → Bool

/-- FREE VALUE: how late an FPU exception is accepted, before it is reduced to the bound `FpuExcSkid` (decision D11, log
entry 10). -/
opaque freeSkid : Nat → Nat

/-- FREE VALUE: whether the fetch of an instruction close behind a store sees that store (decision D15, log entry 20). -/
opaque fetchSeesStore : Nat → Bool

end Sys2Proof.Config
end

