-- ==== Sys2Proof/Machine/State.lean ====
section
/-! DEFINITION. The state of the machine as plain data, its value at reset, and the reasons a step can stop. -/

namespace Sys2Proof.Machine

open Sys2Proof.Config

/-- Why the machine stops with a fault. The exceptions the spec describes are not here: the machine takes them. -/
inductive Fault where
  /-- An access to an address that the platform's `MemMap` backs with nothing (rules R70 and R580 item 15, U3: access to
  undefined or reserved addresses is prohibited and what follows is not guaranteed). Raised by every memory access; never
  with the default map. Safe: the model stops where the hardware does something unknown. -/
  | unbackedAddress
  deriving DecidableEq, Repr

/-- Why the machine gives a step no meaning. -/
inductive Refusal where
  /-- An instruction whose meaning is not written. Raised by an arm of `exec` only. Safe. -/
  | notModelled (mnemonic : String)
  /-- An access to a device of the platform, whose behaviour the spec does not give (rules R60, R556). Raised by every
  memory access; never with the default map. Safe. -/
  | deviceAccess (device : Nat)
  /-- The platform's `MemMap` forbids the read of the reset vector, for which the spec gives no outcome (rule R570). Raised
  by a reset event. Safe. -/
  | resetVectorUnreadable
  deriving DecidableEq, Repr

/-- The status register as its six fields (rules R24, R25): every other bit of SR is always 0. -/
structure Sr where
  /-- Bit 9, used by the division steps. -/
  m : Bool
  /-- Bit 8, used by the division steps. -/
  q : Bool
  /-- Bits 7 to 4, the interrupt mask I3 to I0. -/
  i : BitVec 4
  /-- Bit 1, selects saturation in MAC.L and MAC.W. -/
  s : Bool
  /-- Bit 0, the true/false, carry, borrow and overflow flag. -/
  t : Bool
  deriving DecidableEq, Repr

/-- The floating-point status/control register as its six variable bits (rules R35, R36): DN is always 1, RM always 01 and
every other bit always 0. -/
structure Fpscr where
  /-- Bit 16, cause: invalid operation. -/
  cv : Bool
  /-- Bit 15, cause: divide by zero. -/
  cz : Bool
  /-- Bit 11, enable: invalid operation. -/
  ev : Bool
  /-- Bit 10, enable: divide by zero. -/
  ez : Bool
  /-- Bit 6, flag: invalid operation. -/
  fv : Bool
  /-- Bit 5, flag: divide by zero. -/
  fz : Bool
  deriving DecidableEq, Repr

/-- The processing state of the CPU between steps (rule R560). Exception processing and the reset sequence are each one
step; the bus-release state is invisible to the CPU (rule R563). -/
inductive Mode where
  /-- Program execution. -/
  | running
  /-- Power-down, sleep mode (rules R379, R561). -/
  | asleep
  /-- The terminal state of a fault inside an address-error entry, left only by reset (rule R534). -/
  | doubleFault
  deriving DecidableEq, Repr

/-- A store that fetches may not see yet (decision D15): the bytes it replaced, from `addr` on, and how many more fetches
may still read them. -/
structure StoreRecord where
  addr : Nat
  old : List Byte
  left : Nat
  deriving DecidableEq, Repr

/-- Memory: the bytes that differ from what an unlisted address reads as, in strictly rising order of address. -/
abbrev Memory := List Host.Cell

/-- The whole state of the machine. INVENTORY.md lists each field with the rule that names it and its reset value. -/
structure State where
  /-- R0 to R15 (rule R20). -/
  regs : Vector Word 16
  /-- The status register (rule R24). -/
  sr : Sr
  /-- The global base register (rule R28). -/
  gbr : Word
  /-- The vector base register (rule R29). -/
  vbr : Word
  /-- The upper half of the accumulator (rule R30). -/
  mach : Word
  /-- The lower half of the accumulator (rule R30). -/
  macl : Word
  /-- The procedure register (rule R32). -/
  pr : Word
  /-- The address of the instruction to execute next (rules R9, R31). -/
  pc : Word
  /-- FR0 to FR15, as bit patterns (rule R33). -/
  frs : Vector Word 16
  /-- The floating-point communication register (rule R34). -/
  fpul : Word
  /-- The floating-point status/control register (rule R35). -/
  fpscr : Fpscr
  /-- `slot_pending` and `slot_target` (rule R42): the target of a delayed branch whose slot instruction stands at `pc`. -/
  slot : Option Word
  /-- `int_inhibit` (rule R42): nothing asynchronous is accepted before the next instruction. -/
  intInhibit : Bool
  /-- `fpu_exc_pending` (rule R42): an FPU exception waits, and how many instructions still precede its acceptance. -/
  fpuPending : Option Nat
  /-- Program execution, power-down or `DoubleFault` (rules R42, R560). -/
  mode : Mode
  /-- The input `FpuStopped` (rules R42, R523). -/
  fpuStopped : Bool
  /-- The interrupt requests the platform offers now (rules R42, R520). -/
  irq : List IrqRequest
  /-- The bus lock of TAS.B (rules R42, R73). -/
  busLock : Bool
  /-- The memory (rule R60). -/
  mem : Memory
  /-- The platform's parameters (spec/92_eei_decisions.md). -/
  platform : Platform
  /-- MODEL'S OWN: what the platform will do around each of the next steps, one entry a step; when it is used up the
  platform holds its outputs as they are and no other bus master writes (log entry 7). -/
  inputs : List PlatformInput
  /-- MODEL'S OWN: the bytes that other bus masters write before each of the CPU's next accesses of this step, one entry an
  access (rule R74, decision D16, log entry 25). -/
  bus : List (List Host.Cell)
  /-- MODEL'S OWN: the stores that a fetch may still miss, newest first (decision D15, log entry 20). -/
  recent : List StoreRecord
  /-- MODEL'S OWN: how many free values have been drawn (log entry 29). -/
  free : Nat
  deriving DecidableEq, Repr

/-- The machine right after reset (rules R40, R41, R573): the mask I is 1111, VBR is 0, FPSCR is H'00040001, nothing is
pending and the FPU runs. PC and R15 are what the reset vector holds in a memory that lists nothing, 0 (log entry 3). DESIGN
CHOICE: every register and bit the spec calls undefined is 0 (log entry 1). -/
def State.reset : State where
  regs := Vector.replicate 16 0x00000000#32
  sr := { m := false, q := false, i := 0xF#4, s := false, t := false }
  gbr := 0x00000000#32
  vbr := 0x00000000#32
  mach := 0x00000000#32
  macl := 0x00000000#32
  pr := 0x00000000#32
  pc := 0x00000000#32
  frs := Vector.replicate 16 0x00000000#32
  fpul := 0x00000000#32
  fpscr := { cv := false, cz := false, ev := false, ez := false, fv := false, fz := false }
  slot := none
  intInhibit := false
  fpuPending := none
  mode := .running
  fpuStopped := false
  irq := []
  busLock := false
  mem := []
  platform := defaultPlatform
  inputs := []
  bus := []
  recent := []
  free := 0

end Sys2Proof.Machine
end

