-- ==== Sys2Proof/Machine/Flags.lean ====
section
/-! DEFINITION. SR and FPSCR as 32-bit words and as fields, and every computation of a flag. -/

namespace Sys2Proof.Machine

/-! ## The status register -/

/-- SR as it is read (rules R24, R25): `M<<9 | Q<<8 | I<<4 | S<<1 | T`, every other bit 0. -/
def Sr.toWord (r : Sr) : Word :=
  0#22 ++ BitVec.ofBool r.m ++ BitVec.ofBool r.q ++ r.i ++ 0#2 ++ BitVec.ofBool r.s ++ BitVec.ofBool r.t

/-- SR after the value `w` is written to it whole (rule R25): only the bits of the mask H'000003F3 are kept. -/
def Sr.ofWord (w : Word) : Sr where
  m := w.getLsbD 9
  q := w.getLsbD 8
  i := w.extractLsb' 4 4
  s := w.getLsbD 1
  t := w.getLsbD 0

/-! ## The floating-point status/control register -/

/-- FPSCR as it is read (rules R35, R36): DN is 1, RM is 01 and the bits the core does not support are 0. -/
def Fpscr.toWord (r : Fpscr) : Word :=
  0#13 ++ 1#1 ++ 0#1 ++ BitVec.ofBool r.cv ++ BitVec.ofBool r.cz ++ 0#3 ++ BitVec.ofBool r.ev ++ BitVec.ofBool r.ez
    ++ 0#3 ++ BitVec.ofBool r.fv ++ BitVec.ofBool r.fz ++ 0#3 ++ 1#2

/-- FPSCR after the value `w` is written to it (rules R36, R492): only the bits of the mask H'00018C60 are taken. -/
def Fpscr.ofWord (w : Word) : Fpscr where
  cv := w.getLsbD 16
  cz := w.getLsbD 15
  ev := w.getLsbD 11
  ez := w.getLsbD 10
  fv := w.getLsbD 6
  fz := w.getLsbD 5

/-- `clear_cause_VZ()` (rule R423). -/
def Fpscr.clearCause (r : Fpscr) : Fpscr := { r with cv := false, cz := false }

/-- `set_V()` (rule R423): the cause and the sticky flag of an invalid operation. -/
def Fpscr.setV (r : Fpscr) : Fpscr := { r with cv := true, fv := true }

/-- `set_Z()` (rule R423): the cause and the sticky flag of a division by zero. -/
def Fpscr.setZ (r : Fpscr) : Fpscr := { r with cz := true, fz := true }

/-! ## Sums and differences with a flag -/

/-- The sum of two registers and a carry, and the carry out of bit 31 (rule R203). -/
def addCarry (a b : Word) (c : Bool) : Word × Bool :=
  let sum := a.toNat + b.toNat + c.toNat
  (BitVec.ofNat 32 sum, decide (2 ^ 32 ≤ sum))

/-- The sum of two registers, and whether the signed sum overflows (rule R204). -/
def addOverflow (a b : Word) : Word × Bool :=
  let sum := a.toInt + b.toInt
  (BitVec.ofInt 32 sum, decide (sum < -2 ^ 31 ∨ 2 ^ 31 ≤ sum))

/-- The difference `a - b` less a borrow, and the borrow out of bit 31 (rules R231, R233). -/
def subBorrow (a b : Word) (c : Bool) : Word × Bool :=
  let d : Int := (a.toNat : Int) - (b.toNat : Int) - (c.toNat : Int)
  (BitVec.ofInt 32 d, decide (d < 0))

/-- The difference `a - b`, and whether the signed difference overflows in either direction (rule R234). -/
def subOverflow (a b : Word) : Word × Bool :=
  let d := a.toInt - b.toInt
  (BitVec.ofInt 32 d, decide (d < -2 ^ 31 ∨ 2 ^ 31 ≤ d))

/-! ## Comparisons -/

/-- Unsigned `a >= b` (rule R207). -/
def unsignedGe (a b : Word) : Bool := decide (b.toNat ≤ a.toNat)

/-- Unsigned `a > b` (rule R209). -/
def unsignedGt (a b : Word) : Bool := decide (b.toNat < a.toNat)

/-- Signed `a >= b` (rules R208, R212). -/
def signedGe (a b : Word) : Bool := decide (b.toInt ≤ a.toInt)

/-- Signed `a > b` (rules R210, R211). -/
def signedGt (a b : Word) : Bool := decide (b.toInt < a.toInt)

/-- Some byte of `a` equals the byte of `b` in the same position (rule R213). -/
def someByteEqual (a b : Word) : Bool :=
  a.extractLsb' 24 8 == b.extractLsb' 24 8 || a.extractLsb' 16 8 == b.extractLsb' 16 8
    || a.extractLsb' 8 8 == b.extractLsb' 8 8 || a.extractLsb' 0 8 == b.extractLsb' 0 8

/-! ## One step of a division -/

/-- The dividend of a division step shifted left by one, T entering at bit 0 (rule R214). -/
def divShift (dividend : Word) (t : Bool) : Word := (dividend <<< 1) ||| (BitVec.ofBool t).setWidth 32

/-- The new dividend of a division step and whether the subtraction borrowed or the addition carried (rule R214): the
divisor is subtracted when Q and M agree, added when they do not. -/
def divCombine (shifted divisor : Word) (q m : Bool) : Word × Bool :=
  if q = m then
    (shifted - divisor, unsignedGt (shifted - divisor) shifted)
  else
    (shifted + divisor, unsignedGt shifted (shifted + divisor))

end Sys2Proof.Machine
end

