-- ==== Sys2Proof/Machine/Ops.lean ====
section
/-! DEFINITION. The operations every meaning is written with: reading and writing registers and memory, moving on to the
next instruction, and taking an exception. -/

namespace Sys2Proof.Machine

open Sys2Proof.Config

/-- What a meaning answers. -/
abbrev Result := Host.Outcome State Fault Refusal

/-! ## Registers -/

/-- `R[n]` (rule R20). -/
def State.reg (s : State) (n : Reg) : Word := s.regs[n.val]

/-- `R[n] <- v`. -/
def State.setReg (s : State) (n : Reg) (v : Word) : State := { s with regs := s.regs.set n.val v }

/-- `FR[n]` as a bit pattern (rule R33). -/
def State.fr (s : State) (n : FReg) : Word := s.frs[n.val]

/-- `FR[n] <- v`. -/
def State.setFr (s : State) (n : FReg) (v : Word) : State := { s with frs := s.frs.set n.val v }

/-- `SR.T <- b`, the other bits of SR unchanged. -/
def State.setT (s : State) (b : Bool) : State := { s with sr := { s.sr with t := b } }

/-- `MACH:MACL` as one 64-bit value (rule R30). -/
def State.mac (s : State) : BitVec 64 := s.mach ++ s.macl

/-- `MACH:MACL <- v`. -/
def State.setMac (s : State) (v : BitVec 64) : State := { s with mach := v.extractLsb' 32 32, macl := v.extractLsb' 0 32 }

/-! ## Memory -/

/-- What an address that memory does not list reads as. DESIGN CHOICE (unsafe): the spec leaves the contents of memory to
the platform, and the model takes every byte to be 0 until something is stored there (log entry 2). -/
def Memory.unlisted : Byte := 0x00#8

/-- The byte at an address. -/
def Memory.read : Memory → Nat → Byte
  | [], _ => Memory.unlisted
  | (k, b) :: rest, a => if k = a then b else Memory.read rest a

/-- Memory with nothing listed at an address. -/
def Memory.erase : Memory → Nat → Memory
  | [], _ => []
  | (k, b) :: rest, a => if k = a then Memory.erase rest a else (k, b) :: Memory.erase rest a

/-- Memory with a byte listed before the first higher address. -/
def Memory.insert : Memory → Nat → Byte → Memory
  | [], a, b => [(a, b)]
  | (k, c) :: rest, a, b => if a < k then (a, b) :: (k, c) :: rest else (k, c) :: Memory.insert rest a b

/-- Store a byte; a byte equal to what an unlisted address reads as is not listed. -/
def Memory.write (m : Memory) (a : Nat) (b : Byte) : Memory :=
  if b = Memory.unlisted then m.erase a else (m.erase a).insert a b

/-- The list is in canonical form from address `lo` on: addresses strictly rising and below 2^32, and no entry equal to
what an unlisted address reads as. -/
def Memory.wfFrom : Nat → Memory → Bool
  | _, [] => true
  | lo, (k, b) :: rest => decide (lo ≤ k) && decide (k < 2 ^ 32) && decide (b ≠ Memory.unlisted) && Memory.wfFrom (k + 1) rest

/-- Memory is in its one canonical form. -/
def Memory.wf (m : Memory) : Bool := Memory.wfFrom 0 m

/-- The word at an address, the byte at the lower address most significant (rule R61). -/
def Memory.read16 (m : Memory) (a : Nat) : Half := m.read a ++ m.read (a + 1)

/-- The longword at an address, the byte at the lowest address most significant (rule R61). -/
def Memory.read32 (m : Memory) (a : Nat) : Word := m.read a ++ m.read (a + 1) ++ m.read (a + 2) ++ m.read (a + 3)

/-- Store a word, big-endian (rule R61). -/
def Memory.write16 (m : Memory) (a : Nat) (v : Half) : Memory :=
  (m.write a (v.extractLsb' 8 8)).write (a + 1) (v.extractLsb' 0 8)

/-- Store a longword, big-endian (rule R61). -/
def Memory.write32 (m : Memory) (a : Nat) (v : Word) : Memory :=
  (((m.write a (v.extractLsb' 24 8)).write (a + 1) (v.extractLsb' 16 8)).write (a + 2) (v.extractLsb' 8 8)).write
    (a + 3) (v.extractLsb' 0 8)

/-- The number of bytes of an access (rule R62). -/
def widthBytes : Width → Nat
  | .byte => 1
  | .word => 2
  | .long => 4

/-- `MemRead(a, n)` on memory alone, zero-extended to 32 bits (rule R9). -/
def Memory.readWidth (m : Memory) (w : Width) (a : Nat) : Word :=
  match w with
  | .byte => (m.read a).setWidth 32
  | .word => (m.read16 a).setWidth 32
  | .long => m.read32 a

/-- `MemWrite(a, n, v)` on memory alone: the low `8*n` bits of `v` (rule R9). -/
def Memory.writeWidth (m : Memory) (w : Width) (a : Nat) (v : Word) : Memory :=
  match w with
  | .byte => m.write a (v.extractLsb' 0 8)
  | .word => m.write16 a (v.extractLsb' 0 16)
  | .long => m.write32 a v

/-- The `n` bytes from an address on. -/
def Memory.bytes (m : Memory) (a : Nat) : Nat → List Byte
  | 0 => []
  | n + 1 => m.read a :: Memory.bytes m (a + 1) n

/-- The bytes other bus masters write, in order (decision D16); addresses are modulo 2^32. -/
def Memory.writeCells : Memory → List Host.Cell → Memory
  | m, [] => m
  | m, (a, b) :: rest => Memory.writeCells (m.write (a % 2 ^ 32) b) rest

/-! ## Accesses through the platform's memory map -/

/-- A region applies to accesses of this kind and width whose first byte lies in it (log entry 30). -/
def regionApplies (r : Region) (k : AccessKind) (w : Width) (a : Nat) : Bool :=
  decide (r.base ≤ a) && decide (a < r.base + r.size) && (r.kind == none || r.kind == some k)
    && (r.width == none || r.width == some w)

/-- `MemMap` (decision D6): the first region that applies decides, and RAM is everywhere else. -/
def backingOf : List Region → AccessKind → Width → Nat → Backing
  | [], _, _, _ => .ram
  | r :: rest, k, w, a => if regionApplies r k w a then r.backing else backingOf rest k w a

/-- What an access comes to. -/
inductive Access (α : Type) where
  | ok (v : α)
  | addressError
  | fault (f : Fault)
  | refused (r : Refusal)

/-- Is an access of this kind and width allowed at this address? A misaligned one is an address error before any transfer
(rules R62, R64, R516); otherwise the platform's map decides (rule R70, decision D7). -/
def checkAccess (map : List Region) (k : AccessKind) (w : Width) (a : Word) : Access Unit :=
  if a.toNat % widthBytes w ≠ 0 then .addressError
  else
    match backingOf map k w a.toNat with
    | .ram => .ok ()
    | .device d => .refused (.deviceAccess d)
    | .none => .fault .unbackedAddress
    | .addressError => .addressError

/-- The other bus masters have their turn before an access of the CPU (rule R74, decision D16, log entry 25): they write the
bytes that stand next in `bus`. While TAS.B locks the bus there is no turn (rule R73). -/
def State.busTurn (s : State) : State :=
  { s with
    mem := if s.busLock then s.mem else s.mem.writeCells (s.bus.headD [])
    bus := if s.busLock then s.bus else s.bus.tail }

/-- `MemRead(a, n)` (rules R9, R62): the state after the other masters' turn, and the value then read, zero-extended to 32
bits. An access that is not made, because it is an address error, leaves their turn to the next one. -/
def State.load (s : State) (w : Width) (a : Word) : Access (State × Word) :=
  match checkAccess s.platform.memMap .read w a with
  | .ok _ => .ok (s.busTurn, s.busTurn.mem.readWidth w a.toNat)
  | .addressError => .addressError
  | .fault f => .fault f
  | .refused r => .refused r

/-- The state after the CPU stores the low bytes of `v` at an address it may write: the memory, and the record of the bytes
replaced, which the next four fetches may still read (decision D15, log entry 20). -/
def State.poke (s : State) (w : Width) (a : Word) (v : Word) : State :=
  { s with
    mem := s.mem.writeWidth w a.toNat v
    recent := { addr := a.toNat, old := s.mem.bytes a.toNat (widthBytes w), left := 4 } :: s.recent }

/-- `MemWrite(a, n, v)` (rules R9, R62), after the other masters' turn. -/
def State.store (s : State) (w : Width) (a : Word) (v : Word) : Access State :=
  match checkAccess s.platform.memMap .write w a with
  | .ok _ => .ok (s.busTurn.poke w a v)
  | .addressError => .addressError
  | .fault f => .fault f
  | .refused r => .refused r

/-! ## Moving on -/

/-- The address of the instruction after the one at `pc` in the order of execution: the target of the delayed branch in
whose slot it stands, or `pc + 2` (rules R9, R322). -/
def State.nextPc (s : State) : Word :=
  match s.slot with
  | some target => target
  | none => s.pc + 2#32

/-- `PCval`, what the instruction at `pc` reads as PC: `pc + 4`, or in a delay slot the branch target plus 2 (rules R31,
R141, R324). -/
def State.pcVal (s : State) : Word :=
  match s.slot with
  | some target => target + 2#32
  | none => s.pc + 4#32

/-- The instruction is complete and execution goes on behind it (rules R9, R322 step 6). -/
def State.advance (s : State) : State := { s with pc := s.nextPc, slot := none, intInhibit := false }

/-- An instruction completes. -/
def State.complete (s : State) : Result := .next s.advance

/-- An interrupt-disabled instruction completes: nothing asynchronous is accepted before the next instruction (rule R361). -/
def State.completeInhibited (s : State) : Result := .next { s.advance with intInhibit := true }

/-- `delayed_branch(t)` of an instruction that is not in a slot: its slot instruction comes next, and nothing is accepted
between the two (rules R322, R323). -/
def State.delayedBranch (s : State) (t : Word) : Result :=
  .next { s with pc := s.pc + 2#32, slot := some t, intInhibit := true }

/-! ## Taking an exception -/

/-- What an attempt to enter an exception comes to: entered, or an address error inside the entry, with the state whose
memory holds what was stacked before it. -/
inductive Entry where
  | entered (s : State)
  | addressError (s : State)
  | fault (f : Fault)
  | refused (r : Refusal)

/-- SR after an entry (rule R532): an interrupt sets the mask I, every other event leaves SR as it is. -/
def Sr.raiseMask (r : Sr) (mask : Option (BitVec 4)) : Sr :=
  match mask with
  | some i => { r with i := i }
  | none => r

/-- The address of the entry of vector number `v` in the vector table (rule R512). -/
def State.vectorAddr (s : State) (v : BitVec 8) : Word := s.vbr + 4#32 * v.setWidth 32

/-- Steps 1 to 6 of exception entry (rule R530): SR is stored at R15-4 and `spc` at R15-8, R15 drops by 8, an interrupt
raises the mask, PC comes from the vector table, and no slot or interrupt inhibit is left. -/
def State.tryEnter (s : State) (v : BitVec 8) (spc : Word) (mask : Option (BitVec 4)) : Entry :=
  match s.store .long (s.reg 15 - 4#32) s.sr.toWord with
  | .addressError => .addressError s
  | .fault f => .fault f
  | .refused r => .refused r
  | .ok s1 =>
    match s1.store .long (s.reg 15 - 8#32) spc with
    | .addressError => .addressError s1
    | .fault f => .fault f
    | .refused r => .refused r
    | .ok s2 =>
      match s2.load .long (s.vectorAddr v) with
      | .addressError => .addressError s2
      | .fault f => .fault f
      | .refused r => .refused r
      | .ok (s3, handler) =>
        .entered { s3.setReg 15 (s.reg 15 - 8#32) with
          sr := s.sr.raiseMask mask, pc := handler, slot := none, intInhibit := false }

/-- The exception sequence of an address error (rule R516); an address error inside it leaves the machine in the terminal
state `DoubleFault` (rule R534, log entries 13 and 14). -/
def State.enterAddressError (s : State) (spc : Word) : Result :=
  match s.tryEnter s.platform.vec.addressError spc none with
  | .entered s' => .next s'
  | .addressError s' => .next { s' with mode := .doubleFault }
  | .fault f => .fault f
  | .refused r => .refused r

/-- TAKING AN EXCEPTION other than an address error (rule R530): vector number `v`, saved PC `spc`, and for an interrupt the
new mask. An address error inside the sequence leads to one attempt to take an address error instead (rule R534). -/
def State.enter (s : State) (v : BitVec 8) (spc : Word) (mask : Option (BitVec 4)) : Result :=
  match s.tryEnter v spc mask with
  | .entered s' => .next s'
  | .addressError s' => s'.enterAddressError spc
  | .fault f => .fault f
  | .refused r => .refused r

/-- A data access of the instruction at `pc` is an address error (rule R516): PC is saved as the address of the next
instruction, the branch target in a slot (rule R531), and the bus lock is released (log entry 34). -/
def State.raiseAddressError (s : State) : Result :=
  State.enterAddressError { s with busLock := false } s.nextPc

/-- The instruction at `pc` is illegal: slot illegal in a delay slot, with the branch target as saved PC, general illegal
elsewhere, with its own address (rules R515, R517, R531). -/
def State.raiseIllegal (s : State) : Result :=
  match s.slot with
  | some target => s.enter s.platform.vec.slotIllegal target none
  | none => s.enter s.platform.vec.generalIllegal s.pc none

/-- An instruction that rewrites PC runs outside a delay slot only; in one it is slot illegal (rules R118, R325). -/
def State.outsideSlot (s : State) (body : Result) : Result :=
  match s.slot with
  | some _ => s.raiseIllegal
  | none => body

/-- Return from an exception (rule R377): PC and SR are popped from R15, and the branch to the popped PC is delayed. -/
def State.returnFromException (s : State) : Result :=
  match s.load .long (s.reg 15) with
  | .addressError => s.raiseAddressError
  | .fault f => .fault f
  | .refused r => .refused r
  | .ok (s0, target) =>
    let s1 := s0.setReg 15 (s.reg 15 + 4#32)
    match s1.load .long (s1.reg 15) with
    | .addressError => s1.raiseAddressError
    | .fault f => .fault f
    | .refused r => .refused r
    | .ok (s2, status) =>
      State.delayedBranch { s2.setReg 15 (s1.reg 15 + 4#32) with sr := Sr.ofWord status } target

/-! ## Data accesses of an instruction -/

/-- Read memory and go on with the value in the state after the access; an address error is taken as an exception. -/
def State.withLoad (s : State) (w : Width) (a : Word) (body : State → Word → Result) : Result :=
  match s.load w a with
  | .ok (s', v) => body s' v
  | .addressError => s.raiseAddressError
  | .fault f => .fault f
  | .refused r => .refused r

/-- Write memory and go on in the state after it; an address error is taken as an exception. -/
def State.withStore (s : State) (w : Width) (a : Word) (v : Word) (body : State → Result) : Result :=
  match s.store w a v with
  | .ok s' => body s'
  | .addressError => s.raiseAddressError
  | .fault f => .fault f
  | .refused r => .refused r

/-! ## The FPU -/

/-- A floating-point or FPU-related CPU instruction: illegal while the FPU is stopped (rule R523, log entry 11), a NOP while
an FPU exception is pending (rule R527), and otherwise what `body` says. -/
def State.withFpu (s : State) (body : Result) : Result :=
  if s.fpuStopped then s.raiseIllegal
  else
    match s.fpuPending with
    | some _ => s.complete
    | none => body

/-- The number of instructions that still complete before a raised FPU exception is accepted: any value up to the bound
`FpuExcSkid` (rule R527, decision D11, log entry 10). -/
def chooseSkid (bound draw : Nat) : Nat := if bound = 0 then 0 else Config.freeSkid draw % (bound + 1)

/-- The instruction raises the FPU exception (rule R427): its destination keeps its value, the event is pending and PC
advances. -/
def State.raiseFpu (s : State) : Result :=
  State.complete { s with fpuPending := some (chooseSkid s.platform.fpuExcSkid s.free), free := s.free + 1 }

end Sys2Proof.Machine
end

