-- ==== Sys2Proof/Machine/Operands.lean ====
section
/-! DEFINITION. Operands: the extension of immediates and of loaded data (rules R66, R96) and the effective address of every
addressing mode (rules R69, R97). All address arithmetic is modulo 2^32 (rule R68, log entry 31). -/

namespace Sys2Proof.Machine

open Sys2Proof.Config

/-! ## Extension -/

/-- `sext_8` of a byte. -/
def sext8 (b : Byte) : Word := b.signExtend 32

/-- `sext_16` of a word. -/
def sext16 (h : Half) : Word := h.signExtend 32

/-- `zext_8` of a byte. -/
def zext8 (b : Byte) : Word := b.setWidth 32

/-- `zext_16` of a word. -/
def zext16 (h : Half) : Word := h.setWidth 32

/-- The low byte of a register, `x[7:0]`. -/
def lowByte (x : Word) : Byte := x.extractLsb' 0 8

/-- The low word of a register, `x[15:0]`. -/
def lowHalf (x : Word) : Half := x.extractLsb' 0 16

/-- The high word of a register, `x[31:16]`. -/
def highHalf (x : Word) : Half := x.extractLsb' 16 16

/-- Loaded data as a register holds it: a byte or a word sign-extended to a longword (rules R66, R140). -/
def extendLoaded (w : Width) (v : Word) : Word :=
  match w with
  | .byte => sext8 (lowByte v)
  | .word => sext16 (lowHalf v)
  | .long => v

/-! ## Effective addresses -/

/-- The size of an access as an address increment (rule R69). -/
def sizeWord : Width → Word
  | .byte => 1#32
  | .word => 2#32
  | .long => 4#32

/-- `@(disp:4,Rn)` (rule R97): the displacement is zero-extended and scaled by the size. -/
def eaDisp (s : State) (w : Width) (n : Reg) (d : BitVec 4) : Word := s.reg n + d.setWidth 32 * sizeWord w

/-- `@(R0,Rn)` (rule R69). -/
def eaIndexed (s : State) (n : Reg) : Word := s.reg n + s.reg 0

/-- `@(disp:8,GBR)` (rule R97). -/
def eaGbr (s : State) (w : Width) (d : BitVec 8) : Word := s.gbr + d.setWidth 32 * sizeWord w

/-- `@(R0,GBR)` (rule R69). -/
def eaGbrIndexed (s : State) : Word := s.gbr + s.reg 0

/-- `@-Rn` (rule R69): the decremented address. -/
def eaPreDec (s : State) (w : Width) (n : Reg) : Word := s.reg n - sizeWord w

/-- `@(disp:8,PC)` of a word (rule R97). -/
def eaPcWord (s : State) (d : BitVec 8) : Word := s.pcVal + d.setWidth 32 * 2#32

/-- `@(disp:8,PC)` of a longword and of MOVA (rule R97): the low two bits of PC are cleared first. -/
def eaPcLong (s : State) (d : BitVec 8) : Word := (s.pcVal &&& 0xFFFFFFFC#32) + d.setWidth 32 * 4#32

/-- The target of a branch with an 8-bit displacement (rule R97). -/
def target8 (s : State) (d : BitVec 8) : Word := s.pc + 4#32 + d.signExtend 32 * 2#32

/-- The target of a branch with a 12-bit displacement (rule R97). -/
def target12 (s : State) (d : BitVec 12) : Word := s.pc + 4#32 + d.signExtend 32 * 2#32

/-- The target of BRAF and BSRF (rules R331, R333). -/
def targetReg (s : State) (m : Reg) : Word := s.pc + 4#32 + s.reg m

/-! ## Results and transfers -/

/-- An instruction completes with a result in `R[n]` and its flag in T. -/
def State.setRegT (s : State) (n : Reg) (r : Word × Bool) : Result := State.complete ((s.setReg n r.1).setT r.2)


/-- Load a register from an effective address (rules R66, R144). -/
def State.loadReg (s : State) (w : Width) (a : Word) (n : Reg) : Result :=
  s.withLoad w a fun s v => (s.setReg n (extendLoaded w v)).complete

/-- `@Rm+` to `Rn` (rules R69, R142): where the two are one register it holds the loaded value. -/
def State.loadPostInc (s : State) (w : Width) (m n : Reg) : Result :=
  s.withLoad w (s.reg m) fun s v =>
    if n = m then (s.setReg n (extendLoaded w v)).complete
    else ((s.setReg n (extendLoaded w v)).setReg m (s.reg m + sizeWord w)).complete

/-- Store a value at an effective address. -/
def State.storeAt (s : State) (w : Width) (a v : Word) : Result := s.withStore w a v fun s' => s'.complete

/-- Store a value at `@-Rn` (rules R69, R143, R144): the address register changes only after the store. -/
def State.storePreDec (s : State) (w : Width) (n : Reg) (v : Word) : Result :=
  s.withStore w (eaPreDec s w n) v fun s' => (s'.setReg n (eaPreDec s w n)).complete

/-- `@Rm+` to a register that is no general register (rule R69): what `put` makes of the loaded longword, and then the
address register is incremented. -/
def State.loadLongInc (s : State) (m : Reg) (put : State → Word → State) : Access State :=
  match s.load .long (s.reg m) with
  | .ok (s', v) => .ok ((put s' v).setReg m (s.reg m + 4#32))
  | .addressError => .addressError
  | .fault f => .fault f
  | .refused r => .refused r

/-- A value to `@-Rn` from a register that is no general register (rule R69): the address register changes only after the
store. -/
def State.storeLongDec (s : State) (n : Reg) (v : Word) : Access State :=
  match s.store .long (eaPreDec s .long n) v with
  | .ok s' => .ok (s'.setReg n (eaPreDec s .long n))
  | .addressError => .addressError
  | .fault f => .fault f
  | .refused r => .refused r

/-- Go on after an access, taking its address error as an exception of the instruction in state `s`. -/
def State.andThen (s : State) (r : Access State) (body : State → Result) : Result :=
  match r with
  | .ok s' => body s'
  | .addressError => s.raiseAddressError
  | .fault f => .fault f
  | .refused r => .refused r

end Sys2Proof.Machine
end

