-- ==== Sys2Proof/Machine/Arithmetic.lean ====
section
/-! DEFINITION. The meanings of the arithmetic instructions, in the order of the opcode table (spec/41_arithmetic.md). -/

namespace Sys2Proof.Machine

open Sys2Proof.Config

/-- The accumulator after an exact product is added modulo 2^64 (rules R225, R226 with S = 0). -/
def macWrapping (acc : BitVec 64) (product : Int) : BitVec 64 := acc + BitVec.ofInt 64 product

/-- An integer held between two bounds. -/
def clamp (low high x : Int) : Int := if x < low then low else if high < x then high else x

/-- The accumulator of MAC.L with S = 1 (rule R225): its low 48 bits are a signed number, the sum is held between -2^47 and
2^47 - 1 and sign-extended to 64 bits (decision D21, log entry 23). -/
def macLongSaturating (acc : BitVec 64) (a b : Word) : BitVec 64 :=
  BitVec.ofInt 64 (clamp (-2 ^ 47) (2 ^ 47 - 1) ((acc.extractLsb' 0 48).toInt + a.toInt * b.toInt))

/-- The accumulator of MAC.W with S = 1 (rule R226): only MACL counts, the sum is held between -2^31 and 2^31 - 1, and an
overflow sets bit 0 of MACH. -/
def macWordSaturating (acc : BitVec 64) (a b : Half) : BitVec 64 :=
  let sum := (acc.extractLsb' 0 32).toInt + a.toInt * b.toInt
  let mach := acc.extractLsb' 32 32
  let macl := BitVec.ofInt 32 (clamp (-2 ^ 31) (2 ^ 31 - 1) sum)
  (if sum < -2 ^ 31 ∨ 2 ^ 31 ≤ sum then mach ||| 1#32 else mach) ++ macl

/-- The two operands of a multiply-and-accumulate (rules R72, R225, R226): the one at `R[n]` first, then, with that register
moved on, the one at `R[m]`. -/
def State.loadMacPair (s : State) (w : Width) (m n : Reg) (body : State → Word → Word → Result) : Result :=
  s.withLoad w (s.reg n) fun s a =>
    let s1 := s.setReg n (s.reg n + sizeWord w)
    s1.withLoad w (s1.reg m) fun s2 b => body (s2.setReg m (s2.reg m + sizeWord w)) a b

/-- `ADD Rm,Rn` (rule R201): `R[n] <- R[n] + R[m]`. -/
def execAdd (m : Reg) (n : Reg) (s : State) : Result := State.complete (s.setReg n (s.reg n + s.reg m))

/-- `ADD #imm,Rn` (rule R202): `R[n] <- R[n] + sext_8(i)`. -/
def execAddImm (i : BitVec 8) (n : Reg) (s : State) : Result := State.complete (s.setReg n (s.reg n + sext8 i))

/-- `ADDC Rm,Rn` (rule R203): T is carry in and carry out. -/
def execAddc (m : Reg) (n : Reg) (s : State) : Result := s.setRegT n (addCarry (s.reg n) (s.reg m) s.sr.t)

/-- `ADDV Rm,Rn` (rule R204): T is the signed overflow. -/
def execAddv (m : Reg) (n : Reg) (s : State) : Result := s.setRegT n (addOverflow (s.reg n) (s.reg m))

/-- `CMP/EQ #imm,R0` (rule R205): `T <- (R[0] = sext_8(i))`. -/
def execCmpEqImm (i : BitVec 8) (s : State) : Result := State.complete (s.setT (s.reg 0 == sext8 i))

/-- `CMP/EQ Rm,Rn` (rule R206): `T <- (R[n] = R[m])`. -/
def execCmpEq (m : Reg) (n : Reg) (s : State) : Result := State.complete (s.setT (s.reg n == s.reg m))

/-- `CMP/HS Rm,Rn` (rule R207): unsigned higher or same. -/
def execCmpHs (m : Reg) (n : Reg) (s : State) : Result := State.complete (s.setT (unsignedGe (s.reg n) (s.reg m)))

/-- `CMP/GE Rm,Rn` (rule R208): signed greater or equal. -/
def execCmpGe (m : Reg) (n : Reg) (s : State) : Result := State.complete (s.setT (signedGe (s.reg n) (s.reg m)))

/-- `CMP/HI Rm,Rn` (rule R209): unsigned higher. -/
def execCmpHi (m : Reg) (n : Reg) (s : State) : Result := State.complete (s.setT (unsignedGt (s.reg n) (s.reg m)))

/-- `CMP/GT Rm,Rn` (rule R210): signed greater. -/
def execCmpGt (m : Reg) (n : Reg) (s : State) : Result := State.complete (s.setT (signedGt (s.reg n) (s.reg m)))

/-- `CMP/PL Rn` (rule R211): `T <- (s(R[n]) > 0)`. -/
def execCmpPl (n : Reg) (s : State) : Result := State.complete (s.setT (signedGt (s.reg n) 0#32))

/-- `CMP/PZ Rn` (rule R212): `T <- (s(R[n]) >= 0)`. -/
def execCmpPz (n : Reg) (s : State) : Result := State.complete (s.setT (signedGe (s.reg n) 0#32))

/-- `CMP/STR Rm,Rn` (rule R213): T says whether some byte position agrees. -/
def execCmpStr (m : Reg) (n : Reg) (s : State) : Result := State.complete (s.setT (someByteEqual (s.reg n) (s.reg m)))

/-- `DIV1 Rm,Rn` (rule R214): one step of a non-restoring division; where `m = n` the divisor is the shifted register. -/
def execDiv1 (m : Reg) (n : Reg) (s : State) : Result :=
  let shifted := divShift (s.reg n) s.sr.t
  let divisor := if m = n then shifted else s.reg m
  let combined := divCombine shifted divisor s.sr.q s.sr.m
  let q := ((s.reg n).msb ^^ combined.2) ^^ s.sr.m
  State.complete { s.setReg n combined.1 with sr := { s.sr with q := q, t := q == s.sr.m } }

/-- `DIV0S Rm,Rn` (rule R215): Q and M take the signs, T whether they differ. -/
def execDiv0s (m : Reg) (n : Reg) (s : State) : Result :=
  State.complete { s with sr := { s.sr with
    q := (s.reg n).msb, m := (s.reg m).msb, t := (s.reg m).msb ^^ (s.reg n).msb } }

/-- `DIV0U` (rule R216): M, Q and T become 0. -/
def execDiv0u (s : State) : Result := State.complete { s with sr := { s.sr with m := false, q := false, t := false } }

/-- `DMULS.L Rm,Rn` (rule R218): the exact signed product to MACH:MACL. -/
def execDmulsL (m : Reg) (n : Reg) (s : State) : Result :=
  State.complete (s.setMac (BitVec.ofInt 64 ((s.reg n).toInt * (s.reg m).toInt)))

/-- `DMULU.L Rm,Rn` (rule R219): the exact unsigned product to MACH:MACL. -/
def execDmuluL (m : Reg) (n : Reg) (s : State) : Result :=
  State.complete (s.setMac (BitVec.ofNat 64 ((s.reg n).toNat * (s.reg m).toNat)))

/-- `DT Rn` (rule R220): decrement, T says whether the result is 0. -/
def execDt (n : Reg) (s : State) : Result := s.setRegT n (s.reg n - 1#32, s.reg n - 1#32 == 0#32)

/-- `EXTS.B Rm,Rn` (rule R221): `sext_8` of the low byte. -/
def execExtsB (m : Reg) (n : Reg) (s : State) : Result := State.complete (s.setReg n (sext8 (lowByte (s.reg m))))

/-- `EXTS.W Rm,Rn` (rule R222): `sext_16` of the low word. -/
def execExtsW (m : Reg) (n : Reg) (s : State) : Result := State.complete (s.setReg n (sext16 (lowHalf (s.reg m))))

/-- `EXTU.B Rm,Rn` (rule R223): `zext_8` of the low byte. -/
def execExtuB (m : Reg) (n : Reg) (s : State) : Result := State.complete (s.setReg n (zext8 (lowByte (s.reg m))))

/-- `EXTU.W Rm,Rn` (rule R224): `zext_16` of the low word. -/
def execExtuW (m : Reg) (n : Reg) (s : State) : Result := State.complete (s.setReg n (zext16 (lowHalf (s.reg m))))

/-- `MAC.L @Rm+,@Rn+` (rule R225): 48-bit saturation when S is 1. -/
def execMacL (m : Reg) (n : Reg) (s : State) : Result :=
  s.loadMacPair .long m n fun s' a b =>
    (s'.setMac (if s.sr.s then macLongSaturating s.mac a b else macWrapping s.mac (a.toInt * b.toInt))).complete

/-- `MAC.W @Rm+,@Rn+` (rule R226): 32-bit saturation when S is 1. -/
def execMacW (m : Reg) (n : Reg) (s : State) : Result :=
  s.loadMacPair .word m n fun s' a b =>
    (s'.setMac (if s.sr.s then macWordSaturating s.mac (lowHalf a) (lowHalf b)
      else macWrapping s.mac ((lowHalf a).toInt * (lowHalf b).toInt))).complete

/-- `MUL.L Rm,Rn` (rule R227): the low 32 bits of the product; MACH is unchanged. -/
def execMulL (m : Reg) (n : Reg) (s : State) : Result := State.complete { s with macl := s.reg n * s.reg m }

/-- `MULS.W Rm,Rn` (rule R228): signed product of the low words. -/
def execMulsW (m : Reg) (n : Reg) (s : State) : Result :=
  State.complete { s with macl := BitVec.ofInt 32 ((lowHalf (s.reg n)).toInt * (lowHalf (s.reg m)).toInt) }

/-- `MULU.W Rm,Rn` (rule R229): unsigned product of the low words. -/
def execMuluW (m : Reg) (n : Reg) (s : State) : Result :=
  State.complete { s with macl := BitVec.ofNat 32 ((lowHalf (s.reg n)).toNat * (lowHalf (s.reg m)).toNat) }

/-- `NEG Rm,Rn` (rule R230): `R[n] <- 0 - R[m]`. -/
def execNeg (m : Reg) (n : Reg) (s : State) : Result := State.complete (s.setReg n (0#32 - s.reg m))

/-- `NEGC Rm,Rn` (rule R231): T is borrow in and borrow out. -/
def execNegc (m : Reg) (n : Reg) (s : State) : Result := s.setRegT n (subBorrow 0#32 (s.reg m) s.sr.t)

/-- `SUB Rm,Rn` (rule R232): `R[n] <- R[n] - R[m]`. -/
def execSub (m : Reg) (n : Reg) (s : State) : Result := State.complete (s.setReg n (s.reg n - s.reg m))

/-- `SUBC Rm,Rn` (rule R233): T is borrow in and borrow out. -/
def execSubc (m : Reg) (n : Reg) (s : State) : Result := s.setRegT n (subBorrow (s.reg n) (s.reg m) s.sr.t)

/-- `SUBV Rm,Rn` (rule R234): T is the signed overflow. -/
def execSubv (m : Reg) (n : Reg) (s : State) : Result := s.setRegT n (subOverflow (s.reg n) (s.reg m))

end Sys2Proof.Machine
end

