-- ==== Sys2Proof/Machine/Branch.lean ====
section
/-! DEFINITION. The meanings of the branch instructions, in the order of the opcode table (spec/44_branch.md). -/

namespace Sys2Proof.Machine

open Sys2Proof.Config

/-- A branch without delay (rule R321). -/
def State.branchIf (s : State) (taken : Bool) (target : Word) : Result :=
  if taken then .next { s.advance with pc := target } else s.complete

/-- A conditional delayed branch: an untaken one is an ordinary instruction with no slot (rule R327, decision D22, log entry
24). -/
def State.delayedBranchIf (s : State) (taken : Bool) (target : Word) : Result :=
  if taken then s.delayedBranch target else s.complete

/-- `PR <- pc + 4`, the address of the instruction after the slot (rules R332, R333, R335). -/
def State.link (s : State) : State := { s with pr := s.pc + 4#32 }

/-- `BF label` (rule R326): taken when T is 0, not delayed (rule R321). -/
def execBf (d : BitVec 8) (s : State) : Result := s.outsideSlot (s.branchIf (!s.sr.t) (target8 s d))

/-- `BF/S label` (rule R327): taken when T is 0, delayed; an untaken one has no slot (decision D22). -/
def execBfS (d : BitVec 8) (s : State) : Result := s.outsideSlot (s.delayedBranchIf (!s.sr.t) (target8 s d))

/-- `BT label` (rule R328): taken when T is 1, not delayed (rule R321). -/
def execBt (d : BitVec 8) (s : State) : Result := s.outsideSlot (s.branchIf s.sr.t (target8 s d))

/-- `BT/S label` (rule R329): taken when T is 1, delayed; an untaken one has no slot (decision D22). -/
def execBtS (d : BitVec 8) (s : State) : Result := s.outsideSlot (s.delayedBranchIf s.sr.t (target8 s d))

/-- `BRA label` (rule R330): to `pc + 4 + 2*sext_12(d)`. -/
def execBra (d : BitVec 12) (s : State) : Result := s.outsideSlot (s.delayedBranch (target12 s d))

/-- `BRAF Rm` (rule R331): to `pc + 4 + R[m]`. -/
def execBraf (m : Reg) (s : State) : Result := s.outsideSlot (s.delayedBranch (targetReg s m))

/-- `BSR label` (rule R332): as BRA, `PR <- pc + 4`. -/
def execBsr (d : BitVec 12) (s : State) : Result := s.outsideSlot (s.link.delayedBranch (target12 s d))

/-- `BSRF Rm` (rule R333): as BRAF, `PR <- pc + 4`. -/
def execBsrf (m : Reg) (s : State) : Result := s.outsideSlot (s.link.delayedBranch (targetReg s m))

/-- `JMP @Rm` (rule R334): to `R[m]`. -/
def execJmp (m : Reg) (s : State) : Result := s.outsideSlot (s.delayedBranch (s.reg m))

/-- `JSR @Rm` (rule R335): to `R[m]`, `PR <- pc + 4`. -/
def execJsr (m : Reg) (s : State) : Result := s.outsideSlot (s.link.delayedBranch (s.reg m))

/-- `RTS` (rule R336): to PR. -/
def execRts (s : State) : Result := s.outsideSlot (s.delayedBranch s.pr)

end Sys2Proof.Machine
end

