-- ==== Sys2Proof/Machine/DataTransfer.lean ====
section
/-! DEFINITION. The meanings of the data transfer instructions, in the order of the opcode table (spec/40_data_transfer.md). -/

namespace Sys2Proof.Machine

open Sys2Proof.Config

/-- The two low bytes of a register exchanged (rule R181). -/
def swapBytes (x : Word) : Word := highHalf x ++ lowByte x ++ x.extractLsb' 8 8

/-- `MOV #imm,Rn` (rule R145): `R[n] <- sext_8(i)`. -/
def execMovImm (i : BitVec 8) (n : Reg) (s : State) : Result := State.complete (s.setReg n (sext8 i))

/-- `MOV.W @(disp,PC),Rn` (rule R146): a word from `PCval + 2*d`. -/
def execMovWPc (d : BitVec 8) (n : Reg) (s : State) : Result := s.loadReg .word (eaPcWord s d) n

/-- `MOV.L @(disp,PC),Rn` (rule R147): a longword from `(PCval & ~3) + 4*d`. -/
def execMovLPc (d : BitVec 8) (n : Reg) (s : State) : Result := s.loadReg .long (eaPcLong s d) n

/-- `MOV Rm,Rn` (rule R148): `R[n] <- R[m]`. -/
def execMov (m : Reg) (n : Reg) (s : State) : Result := State.complete (s.setReg n (s.reg m))

/-- `MOV.B Rm,@Rn` (rule R149): the low bytes of `R[m]` to the address in `R[n]`. -/
def execMovBStore (m : Reg) (n : Reg) (s : State) : Result := s.storeAt .byte (s.reg n) (s.reg m)

/-- `MOV.W Rm,@Rn` (rule R150): the low bytes of `R[m]` to the address in `R[n]`. -/
def execMovWStore (m : Reg) (n : Reg) (s : State) : Result := s.storeAt .word (s.reg n) (s.reg m)

/-- `MOV.L Rm,@Rn` (rule R151): the low bytes of `R[m]` to the address in `R[n]`. -/
def execMovLStore (m : Reg) (n : Reg) (s : State) : Result := s.storeAt .long (s.reg n) (s.reg m)

/-- `MOV.B @Rm,Rn` (rule R152): from the address in `R[m]`. -/
def execMovBLoad (m : Reg) (n : Reg) (s : State) : Result := s.loadReg .byte (s.reg m) n

/-- `MOV.W @Rm,Rn` (rule R153): from the address in `R[m]`. -/
def execMovWLoad (m : Reg) (n : Reg) (s : State) : Result := s.loadReg .word (s.reg m) n

/-- `MOV.L @Rm,Rn` (rule R154): from the address in `R[m]`. -/
def execMovLLoad (m : Reg) (n : Reg) (s : State) : Result := s.loadReg .long (s.reg m) n

/-- `MOV.B Rm,@-Rn` (rule R155): the undecremented `R[m]` to the decremented address (rule R143). -/
def execMovBPreDec (m : Reg) (n : Reg) (s : State) : Result := s.storePreDec .byte n (s.reg m)

/-- `MOV.W Rm,@-Rn` (rule R156): the undecremented `R[m]` to the decremented address (rule R143). -/
def execMovWPreDec (m : Reg) (n : Reg) (s : State) : Result := s.storePreDec .word n (s.reg m)

/-- `MOV.L Rm,@-Rn` (rule R157): the undecremented `R[m]` to the decremented address (rule R143). -/
def execMovLPreDec (m : Reg) (n : Reg) (s : State) : Result := s.storePreDec .long n (s.reg m)

/-- `MOV.B @Rm+,Rn` (rule R158): the loaded value prevails where `n = m` (rule R142). -/
def execMovBPostInc (m : Reg) (n : Reg) (s : State) : Result := s.loadPostInc .byte m n

/-- `MOV.W @Rm+,Rn` (rule R159): the loaded value prevails where `n = m` (rule R142). -/
def execMovWPostInc (m : Reg) (n : Reg) (s : State) : Result := s.loadPostInc .word m n

/-- `MOV.L @Rm+,Rn` (rule R160): the loaded value prevails where `n = m` (rule R142). -/
def execMovLPostInc (m : Reg) (n : Reg) (s : State) : Result := s.loadPostInc .long m n

/-- `MOV.B R0,@(disp,Rn)` (rule R161): R0 to `R[n] + size*d`. -/
def execMovBStoreDisp (d : BitVec 4) (n : Reg) (s : State) : Result := s.storeAt .byte (eaDisp s .byte n d) (s.reg 0)

/-- `MOV.W R0,@(disp,Rn)` (rule R162): R0 to `R[n] + size*d`. -/
def execMovWStoreDisp (d : BitVec 4) (n : Reg) (s : State) : Result := s.storeAt .word (eaDisp s .word n d) (s.reg 0)

/-- `MOV.L Rm,@(disp,Rn)` (rule R163): `R[m]` to `R[n] + 4*d`. -/
def execMovLStoreDisp (m : Reg) (d : BitVec 4) (n : Reg) (s : State) : Result :=
  s.storeAt .long (eaDisp s .long n d) (s.reg m)

/-- `MOV.B @(disp,Rm),R0` (rule R164): R0 from `R[m] + size*d`. -/
def execMovBLoadDisp (d : BitVec 4) (m : Reg) (s : State) : Result := s.loadReg .byte (eaDisp s .byte m d) 0

/-- `MOV.W @(disp,Rm),R0` (rule R165): R0 from `R[m] + size*d`. -/
def execMovWLoadDisp (d : BitVec 4) (m : Reg) (s : State) : Result := s.loadReg .word (eaDisp s .word m d) 0

/-- `MOV.L @(disp,Rm),Rn` (rule R166): from `R[m] + 4*d`. -/
def execMovLLoadDisp (d : BitVec 4) (m : Reg) (n : Reg) (s : State) : Result := s.loadReg .long (eaDisp s .long m d) n

/-- `MOV.B Rm,@(R0,Rn)` (rule R167): to `R[n] + R[0]`. -/
def execMovBStoreR0 (m : Reg) (n : Reg) (s : State) : Result := s.storeAt .byte (eaIndexed s n) (s.reg m)

/-- `MOV.W Rm,@(R0,Rn)` (rule R168): to `R[n] + R[0]`. -/
def execMovWStoreR0 (m : Reg) (n : Reg) (s : State) : Result := s.storeAt .word (eaIndexed s n) (s.reg m)

/-- `MOV.L Rm,@(R0,Rn)` (rule R169): to `R[n] + R[0]`. -/
def execMovLStoreR0 (m : Reg) (n : Reg) (s : State) : Result := s.storeAt .long (eaIndexed s n) (s.reg m)

/-- `MOV.B @(R0,Rm),Rn` (rule R170): from `R[m] + R[0]`. -/
def execMovBLoadR0 (m : Reg) (n : Reg) (s : State) : Result := s.loadReg .byte (eaIndexed s m) n

/-- `MOV.W @(R0,Rm),Rn` (rule R171): from `R[m] + R[0]`. -/
def execMovWLoadR0 (m : Reg) (n : Reg) (s : State) : Result := s.loadReg .word (eaIndexed s m) n

/-- `MOV.L @(R0,Rm),Rn` (rule R172): from `R[m] + R[0]`. -/
def execMovLLoadR0 (m : Reg) (n : Reg) (s : State) : Result := s.loadReg .long (eaIndexed s m) n

/-- `MOV.B R0,@(disp,GBR)` (rule R173): R0 to `GBR + size*d`. -/
def execMovBStoreGbr (d : BitVec 8) (s : State) : Result := s.storeAt .byte (eaGbr s .byte d) (s.reg 0)

/-- `MOV.W R0,@(disp,GBR)` (rule R174): R0 to `GBR + size*d`. -/
def execMovWStoreGbr (d : BitVec 8) (s : State) : Result := s.storeAt .word (eaGbr s .word d) (s.reg 0)

/-- `MOV.L R0,@(disp,GBR)` (rule R175): R0 to `GBR + size*d`. -/
def execMovLStoreGbr (d : BitVec 8) (s : State) : Result := s.storeAt .long (eaGbr s .long d) (s.reg 0)

/-- `MOV.B @(disp,GBR),R0` (rule R176): R0 from `GBR + size*d`. -/
def execMovBLoadGbr (d : BitVec 8) (s : State) : Result := s.loadReg .byte (eaGbr s .byte d) 0

/-- `MOV.W @(disp,GBR),R0` (rule R177): R0 from `GBR + size*d`. -/
def execMovWLoadGbr (d : BitVec 8) (s : State) : Result := s.loadReg .word (eaGbr s .word d) 0

/-- `MOV.L @(disp,GBR),R0` (rule R178): R0 from `GBR + size*d`. -/
def execMovLLoadGbr (d : BitVec 8) (s : State) : Result := s.loadReg .long (eaGbr s .long d) 0

/-- `MOVA @(disp,PC),R0` (rule R179): `R[0] <- (PCval & ~3) + 4*d`, no access. -/
def execMova (d : BitVec 8) (s : State) : Result := State.complete (s.setReg 0 (eaPcLong s d))

/-- `MOVT Rn` (rule R180): `R[n] <- T`. -/
def execMovt (n : Reg) (s : State) : Result := State.complete (s.setReg n ((BitVec.ofBool s.sr.t).setWidth 32))

/-- `SWAP.B Rm,Rn` (rule R181): the two low bytes exchanged. -/
def execSwapB (m : Reg) (n : Reg) (s : State) : Result := State.complete (s.setReg n (swapBytes (s.reg m)))

/-- `SWAP.W Rm,Rn` (rule R182): the two words exchanged. -/
def execSwapW (m : Reg) (n : Reg) (s : State) : Result :=
  State.complete (s.setReg n (lowHalf (s.reg m) ++ highHalf (s.reg m)))

/-- `XTRCT Rm,Rn` (rule R183): the middle 32 bits of `R[m] : R[n]`. -/
def execXtrct (m : Reg) (n : Reg) (s : State) : Result :=
  State.complete (s.setReg n (lowHalf (s.reg m) ++ highHalf (s.reg n)))

end Sys2Proof.Machine
end

