-- ==== Sys2Proof/Machine/Float.lean ====
section
/-! DEFINITION. Single-precision arithmetic on bit patterns: classes, rounding toward zero, and the result of every
floating-point operation (rules R421 to R450), computed exactly on integers and narrowed once at the end. -/

namespace Sys2Proof.Machine

/-- The classes of `data_type_of` (rule R422). A denormalized number is the zero of its sign. -/
inductive FpClass where
  | norm
  | pzero
  | nzero
  | pinf
  | ninf
  | qnan
  | snan
  deriving DecidableEq, Repr

/-- What a value-producing operation comes to, before FPSCR decides on it (rules R423 to R426). -/
inductive FpResult where
  /-- A result, with no exception cause. -/
  | value (w : Word)
  /-- An invalid operation. -/
  | invalid
  /-- A division by zero, whose untrapped result is the infinity of this sign. -/
  | divByZero (sign : Bool)
  deriving DecidableEq, Repr

/-- The results of `fcmp_chk` (rule R432). -/
inductive FpOrder where
  | eq
  | gt
  | notgt
  | uo
  | invalid
  deriving DecidableEq, Repr

/-! ## Patterns -/

/-- `sign_of(x)` (rule R421). -/
def fpSign (x : Word) : Bool := x.msb

/-- The pattern without its sign bit. -/
def fpAbsBits (x : Word) : Word := x &&& 0x7FFFFFFF#32

/-- `data_type_of(x)` (rule R422): a NaN is signaling when bit 22 is set. -/
def fpClass (x : Word) : FpClass :=
  let a := (fpAbsBits x).toNat
  if a < 0x00800000 then (if fpSign x then .nzero else .pzero)
  else if a < 0x7F800000 then .norm
  else if a = 0x7F800000 then (if fpSign x then .ninf else .pinf)
  else if x.getLsbD 22 then .snan
  else .qnan

/-- The sign bit of a pattern with this sign. -/
def fpSignBits (sign : Bool) : Nat := if sign then 0x80000000 else 0

/-- `zero(dest, s)` (rule R424). -/
def fpZero (sign : Bool) : Word := if sign then 0x80000000#32 else 0x00000000#32

/-- `inf(dest, s)` (rule R424). -/
def fpInf (sign : Bool) : Word := if sign then 0xFF800000#32 else 0x7F800000#32

/-- The largest finite number of a sign, the result of an overflow (rule R426). -/
def fpMax (sign : Bool) : Word := if sign then 0xFF7FFFFF#32 else 0x7F7FFFFF#32

/-- `qnan(dest)`: the one quiet NaN the FPU generates (rule R424). -/
def fpQNaN : Word := 0x7FBFFFFF#32

/-- The 24-bit significand of a normalized pattern as an integer (rule R422). -/
def fpMant (x : Word) : Nat := 0x800000 + x.toNat % 0x800000

/-- The exponent that belongs to `fpMant`: a normalized pattern is worth `fpMant * 2^fpExp` in absolute value. -/
def fpExp (x : Word) : Int := ((x.toNat / 0x800000 % 0x100 : Nat) : Int) - 150

/-- Round toward zero (rule R426): the pattern of sign `sign` and absolute value `num * 2^e`, truncated to 24 significant
bits; below 2^-126 the zero of the sign, from 2^128 on the largest finite number. -/
def fpTruncate (sign : Bool) (num : Nat) (e : Int) : Word :=
  let lead := Nat.log2 num
  let exponent := e + lead
  if num = 0 then fpZero sign
  else if exponent < -126 then fpZero sign
  else if 128 ≤ exponent then fpMax sign
  else
    let significand := if 23 ≤ lead then num / 2 ^ (lead - 23) else num * 2 ^ (23 - lead)
    BitVec.ofNat 32 (fpSignBits sign + (exponent + 127).toNat * 0x800000 + (significand - 0x800000))

/-! ## Arithmetic on two normalized operands (rule R426) -/

/-- A normalized pattern scaled to an integer multiple of `2^e`, for an `e` not above its exponent. -/
def fpScaled (x : Word) (e : Int) : Int :=
  let v : Int := ((fpMant x * 2 ^ (fpExp x - e).toNat : Nat) : Int)
  if fpSign x then -v else v

/-- The sum; an exact zero is +0 (PRESUMED by the spec, G2; log entry 22). -/
def fpAddNorm (a b : Word) : Word :=
  let e := min (fpExp a) (fpExp b)
  let sum := fpScaled a e + fpScaled b e
  if sum = 0 then fpZero false else fpTruncate (decide (sum < 0)) sum.natAbs e

/-- The product. -/
def fpMulNorm (a b : Word) : Word :=
  fpTruncate (fpSign a ^^ fpSign b) (fpMant a * fpMant b) (fpExp a + fpExp b)

/-- The quotient `a / b`: 26 further bits of quotient leave the 24 significant bits exact, and what is dropped below them
does not change a truncation. -/
def fpDivNorm (a b : Word) : Word :=
  fpTruncate (fpSign a ^^ fpSign b) (fpMant a * 2 ^ 26 / fpMant b) (fpExp a - fpExp b - 26)

/-! ## The operations -/

/-- The pattern with the opposite sign. -/
def fpFlip (x : Word) : Word := x ^^^ 0x80000000#32

/-- NaN operands come before everything else (rule R425): a signaling one is an invalid operation, a quiet one gives the
quiet NaN with no cause. -/
def fpNaNFirst (a b : FpClass) (otherwise : FpResult) : FpResult :=
  if a = .snan ∨ b = .snan then .invalid
  else if a = .qnan ∨ b = .qnan then .value fpQNaN
  else otherwise

/-- FABS (rule R428). -/
def fpAbs (x : Word) : FpResult :=
  match fpClass x with
  | .norm => .value (fpAbsBits x)
  | .pzero | .nzero => .value (fpZero false)
  | .pinf | .ninf => .value (fpInf false)
  | .qnan => .value fpQNaN
  | .snan => .invalid

/-- FNEG (rule R447): a denormalized number is a zero and gives the zero of the opposite sign. -/
def fpNeg (x : Word) : FpResult :=
  match fpClass x with
  | .norm | .pinf | .ninf => .value (fpFlip x)
  | .pzero => .value (fpZero true)
  | .nzero => .value (fpZero false)
  | .qnan => .value fpQNaN
  | .snan => .invalid

/-- FADD of FRm and FRn (rule R429). -/
def fpAdd (m n : Word) : FpResult :=
  fpNaNFirst (fpClass m) (fpClass n) <|
    match fpClass m, fpClass n with
    | .pinf, .ninf | .ninf, .pinf => .invalid
    | .pinf, _ | _, .pinf => .value (fpInf false)
    | .ninf, _ | _, .ninf => .value (fpInf true)
    | .nzero, .nzero => .value (fpZero true)
    | .pzero, .pzero | .pzero, .nzero | .nzero, .pzero => .value (fpZero false)
    | .pzero, _ | .nzero, _ => .value n
    | _, .pzero | _, .nzero => .value m
    | _, _ => .value (fpAddNorm m n)

/-- FSUB, FRn less FRm (rule R449): the infinities follow the manual's table. -/
def fpSub (m n : Word) : FpResult :=
  fpNaNFirst (fpClass m) (fpClass n) <|
    match fpClass m, fpClass n with
    | .pinf, .pinf | .ninf, .ninf => .invalid
    | .pinf, _ | _, .ninf => .value (fpInf true)
    | .ninf, _ | _, .pinf => .value (fpInf false)
    | .pzero, .nzero => .value (fpZero true)
    | .pzero, .pzero | .nzero, .pzero | .nzero, .nzero => .value (fpZero false)
    | .pzero, _ | .nzero, _ => .value n
    | _, .pzero | _, .nzero => .value (fpFlip m)
    | _, _ => .value (fpAddNorm n (fpFlip m))

/-- FMUL (rule R446). -/
def fpMul (m n : Word) : FpResult :=
  let s := fpSign m ^^ fpSign n
  fpNaNFirst (fpClass m) (fpClass n) <|
    match fpClass m, fpClass n with
    | .pinf, .pzero | .pinf, .nzero | .ninf, .pzero | .ninf, .nzero
    | .pzero, .pinf | .pzero, .ninf | .nzero, .pinf | .nzero, .ninf => .invalid
    | .pinf, _ | .ninf, _ | _, .pinf | _, .ninf => .value (fpInf s)
    | .pzero, _ | .nzero, _ | _, .pzero | _, .nzero => .value (fpZero s)
    | _, _ => .value (fpMulNorm m n)

/-- FDIV, FRn divided by FRm (rule R433). -/
def fpDiv (m n : Word) : FpResult :=
  let s := fpSign m ^^ fpSign n
  fpNaNFirst (fpClass m) (fpClass n) <|
    match fpClass m, fpClass n with
    | .pinf, .pinf | .pinf, .ninf | .ninf, .pinf | .ninf, .ninf => .invalid
    | .pzero, .pzero | .pzero, .nzero | .nzero, .pzero | .nzero, .nzero => .invalid
    | _, .pinf | _, .ninf => .value (fpInf s)
    | .pzero, _ | .nzero, _ => .divByZero s
    | .pinf, _ | .ninf, _ | _, .pzero | _, .nzero => .value (fpZero s)
    | _, _ => .value (fpDivNorm n m)

/-- A pattern that is no NaN as a place in the order of the extended reals, zeros and denormalized numbers being one place
(rule R432). -/
def fpRank (x : Word) : Int :=
  let a : Int := ((fpAbsBits x).toNat : Int)
  if a < 0x00800000 then 0 else if fpSign x then -a else a

/-- `fcmp_chk(FRm, FRn)` (rule R432). -/
def fpOrder (m n : Word) : FpOrder :=
  if fpClass m = .snan ∨ fpClass n = .snan then .invalid
  else if fpClass m = .qnan ∨ fpClass n = .qnan then .uo
  else if fpRank n = fpRank m then .eq
  else if fpRank n > fpRank m then .gt
  else .notgt

/-- FCMP/EQ: the new T, or none for an invalid operation (rule R430). -/
def fpCompareEq (m n : Word) : Option Bool :=
  match fpOrder m n with
  | .invalid => none
  | .eq => some true
  | .gt | .notgt | .uo => some false

/-- FCMP/GT: the new T, or none for an invalid operation, which every NaN is here (rule R431). -/
def fpCompareGt (m n : Word) : Option Bool :=
  match fpOrder m n with
  | .invalid | .uo => none
  | .gt => some true
  | .eq | .notgt => some false

/-- FLOAT: a 32-bit signed integer as a single-precision number, truncated (rule R437). -/
def fpOfInt (x : Word) : Word := fpTruncate (decide (x.toInt < 0)) x.toInt.natAbs 0

/-- The integer part of a finite number, with its sign (rule R450). -/
def fpIntPart (x : Word) : Int :=
  let magnitude : Nat :=
    if fpClass x ≠ .norm then 0
    else if 0 ≤ fpExp x then fpMant x * 2 ^ (fpExp x).toNat
    else fpMant x / 2 ^ (-fpExp x).toNat
  if fpSign x then -(magnitude : Int) else magnitude

/-- FTRC (rule R450): the integer, or for an invalid conversion the value that an untrapped one gives. -/
def fpTrunc (x : Word) : Word × Bool :=
  let a := (fpAbsBits x).toNat
  if 0x7F800000 < a then (0x80000000#32, true)
  else if fpSign x then
    (if a ≤ 0x4F000000 then (BitVec.ofInt 32 (fpIntPart x), false) else (0x80000000#32, true))
  else
    (if a ≤ 0x4EFFFFFF then (BitVec.ofInt 32 (fpIntPart x), false) else (0x7FFFFFFF#32, true))

/-! ## What FPSCR makes of a result -/

/-- FPSCR after an arithmetic operation, and the value it writes, none when the FPU exception is raised instead (rules R423,
R427). -/
def Fpscr.settle (r : Fpscr) (x : FpResult) : Fpscr × Option Word :=
  match x with
  | .value w => (r.clearCause, some w)
  | .invalid => (r.clearCause.setV, if r.ev then none else some fpQNaN)
  | .divByZero sign => (r.clearCause.setZ, if r.ez then none else some (fpInf sign))

/-- FPSCR after FMAC and the value it writes (rule R438): the product is settled first, and the sum only if that raises
nothing; the causes of the two are joined. -/
def Fpscr.settleMulAdd (r : Fpscr) (fr0 m n : Word) : Fpscr × Option Word :=
  let product := r.settle (fpMul fr0 m)
  match product.2 with
  | none => product
  | some p =>
    let sum := product.1.settle (fpAdd p n)
    ({ sum.1 with cv := product.1.cv || sum.1.cv }, sum.2)

end Sys2Proof.Machine
end

