-- ==== Sys2Proof/Machine/FpuOps.lean ====
section
/-! DEFINITION. How a floating-point result reaches the machine: FPSCR, the destination, or the FPU exception (rules R423,
R427). -/

namespace Sys2Proof.Machine

/-- Write FPSCR and the destination, or raise the FPU exception with the destination unchanged. -/
def State.fpFinish (s : State) (n : FReg) (r : Fpscr × Option Word) : Result :=
  match r.2 with
  | some w => State.complete { s.setFr n w with fpscr := r.1 }
  | none => State.raiseFpu { s with fpscr := r.1 }

/-- An operation of one result. -/
def State.fpArith (s : State) (n : FReg) (x : FpResult) : Result := s.fpFinish n (s.fpscr.settle x)

/-- FMAC (rule R438). -/
def State.fpMulAdd (s : State) (n : FReg) (fr0 m a : Word) : Result := s.fpFinish n (s.fpscr.settleMulAdd fr0 m a)

/-- A comparison (rules R430, R431): the new T, or an invalid operation, which gives T = 0 or raises the FPU exception with T
unchanged. -/
def State.fpCompare (s : State) (t : Option Bool) : Result :=
  match t with
  | some b => State.complete { s.setT b with fpscr := s.fpscr.clearCause }
  | none =>
    if s.fpscr.ev then State.raiseFpu { s with fpscr := s.fpscr.clearCause.setV }
    else State.complete { s.setT false with fpscr := s.fpscr.clearCause.setV }

/-- FTRC (rule R450): the integer goes to FPUL; an invalid conversion sets the cause, and raises the FPU exception with FPUL
unchanged when that is enabled. -/
def State.fpTruncate (s : State) (r : Word × Bool) : Result :=
  if r.2 then
    (if s.fpscr.ev then State.raiseFpu { s with fpscr := s.fpscr.clearCause.setV }
     else State.complete { s with fpul := r.1, fpscr := s.fpscr.clearCause.setV })
  else State.complete { s with fpul := r.1, fpscr := s.fpscr.clearCause }

end Sys2Proof.Machine
end

