-- ==== Sys2Proof/Machine/FloatingPoint.lean ====
section
/-! DEFINITION. The meanings of the floating-point instructions, in the order of the opcode table (spec/46_floating_point.md). -/

namespace Sys2Proof.Machine

open Sys2Proof.Config

/-- `FABS FRn` (rule R428): the absolute value. -/
def execFabs (n : FReg) (s : State) : Result := s.withFpu (s.fpArith n (fpAbs (s.fr n)))

/-- `FADD FRm,FRn` (rule R429): `FRn + FRm`. -/
def execFadd (m : FReg) (n : FReg) (s : State) : Result := s.withFpu (s.fpArith n (fpAdd (s.fr m) (s.fr n)))

/-- `FCMP/EQ FRm,FRn` (rule R430): T says whether the two are equal; a quiet NaN is unordered and gives 0. -/
def execFcmpEq (m : FReg) (n : FReg) (s : State) : Result := s.withFpu (s.fpCompare (fpCompareEq (s.fr m) (s.fr n)))

/-- `FCMP/GT FRm,FRn` (rule R431): T says whether FRn is greater; every NaN is an invalid operation. -/
def execFcmpGt (m : FReg) (n : FReg) (s : State) : Result := s.withFpu (s.fpCompare (fpCompareGt (s.fr m) (s.fr n)))

/-- `FDIV FRm,FRn` (rule R433): `FRn / FRm`. -/
def execFdiv (m : FReg) (n : FReg) (s : State) : Result := s.withFpu (s.fpArith n (fpDiv (s.fr m) (s.fr n)))

/-- `FLDI0 FRn` (rule R434): `FR[n] <- 0`. -/
def execFldi0 (n : FReg) (s : State) : Result := s.withFpu (State.complete (s.setFr n 0x00000000#32))

/-- `FLDI1 FRn` (rule R435): `FR[n] <- 1.0`. -/
def execFldi1 (n : FReg) (s : State) : Result := s.withFpu (State.complete (s.setFr n 0x3F800000#32))

/-- `FLDS FRm,FPUL` (rule R436): `FPUL <- FR[m]`. -/
def execFlds (m : FReg) (s : State) : Result := s.withFpu (State.complete { s with fpul := s.fr m })

/-- `FLOAT FPUL,FRn` (rule R437): FPUL as a signed integer, truncated to single precision. -/
def execFloat (n : FReg) (s : State) : Result := s.withFpu (s.fpArith n (.value (fpOfInt s.fpul)))

/-- `FMAC FR0,FRm,FRn` (rule R438): `FR0 * FRm + FRn`, rounded twice (decision D20, log entry 22). -/
def execFmac (m : FReg) (n : FReg) (s : State) : Result := s.withFpu (s.fpMulAdd n (s.fr 0) (s.fr m) (s.fr n))

/-- `FMOV FRm,FRn` (rule R439): `FR[n] <- FR[m]`. -/
def execFmov (m : FReg) (n : FReg) (s : State) : Result := s.withFpu (State.complete (s.setFr n (s.fr m)))

/-- `FMOV.S @(R0,Rm),FRn` (rule R440): from `R[0] + R[m]`. -/
def execFmovLoadR0 (m : Reg) (n : FReg) (s : State) : Result :=
  s.withFpu (s.withLoad .long (eaIndexed s m) fun s v => (s.setFr n v).complete)

/-- `FMOV.S @Rm+,FRn` (rule R441): from the address in `R[m]`, which moves on by 4. -/
def execFmovPostInc (m : Reg) (n : FReg) (s : State) : Result :=
  s.withFpu (s.andThen (s.loadLongInc m fun s v => s.setFr n v) State.complete)

/-- `FMOV.S @Rm,FRn` (rule R442): from the address in `R[m]`. -/
def execFmovLoad (m : Reg) (n : FReg) (s : State) : Result :=
  s.withFpu (s.withLoad .long (s.reg m) fun s v => (s.setFr n v).complete)

/-- `FMOV.S FRm,@(R0,Rn)` (rule R443): to `R[0] + R[n]`. -/
def execFmovStoreR0 (m : FReg) (n : Reg) (s : State) : Result := s.withFpu (s.storeAt .long (eaIndexed s n) (s.fr m))

/-- `FMOV.S FRm,@-Rn` (rule R444): to `R[n] - 4`. -/
def execFmovPreDec (m : FReg) (n : Reg) (s : State) : Result :=
  s.withFpu (s.andThen (s.storeLongDec n (s.fr m)) State.complete)

/-- `FMOV.S FRm,@Rn` (rule R445): to the address in `R[n]`. -/
def execFmovStore (m : FReg) (n : Reg) (s : State) : Result := s.withFpu (s.storeAt .long (s.reg n) (s.fr m))

/-- `FMUL FRm,FRn` (rule R446): `FRn * FRm`. -/
def execFmul (m : FReg) (n : FReg) (s : State) : Result := s.withFpu (s.fpArith n (fpMul (s.fr m) (s.fr n)))

/-- `FNEG FRn` (rule R447): the opposite. -/
def execFneg (n : FReg) (s : State) : Result := s.withFpu (s.fpArith n (fpNeg (s.fr n)))

/-- `FSTS FPUL,FRn` (rule R448): `FR[n] <- FPUL`. -/
def execFsts (n : FReg) (s : State) : Result := s.withFpu (State.complete (s.setFr n s.fpul))

/-- `FSUB FRm,FRn` (rule R449): `FRn - FRm`. -/
def execFsub (m : FReg) (n : FReg) (s : State) : Result := s.withFpu (s.fpArith n (fpSub (s.fr m) (s.fr n)))

/-- `FTRC FRm,FPUL` (rule R450): `FPUL <-` the integer part of FR[m]. -/
def execFtrc (m : FReg) (s : State) : Result := s.withFpu (s.fpTruncate (fpTrunc (s.fr m)))

end Sys2Proof.Machine
end

