-- ==== Sys2Proof/Machine/FpuCpu.lean ====
section
/-! DEFINITION. The meanings of the FPU-related CPU instructions, in the order of the opcode table (spec/47_fpu_cpu.md). -/

namespace Sys2Proof.Machine

open Sys2Proof.Config

/-- `LDS Rm,FPSCR` (rule R492): `FPSCR <- R[m]`, writable bits only. -/
def execLdsFpscr (m : Reg) (s : State) : Result := s.withFpu (State.complete { s with fpscr := Fpscr.ofWord (s.reg m) })

/-- `LDS Rm,FPUL` (rule R493): `FPUL <- R[m]`. -/
def execLdsFpul (m : Reg) (s : State) : Result := s.withFpu (State.complete { s with fpul := s.reg m })

/-- `LDS.L @Rm+,FPSCR` (rule R494): FPSCR from the longword at `R[m]`, which moves on by 4. -/
def execLdsLFpscr (m : Reg) (s : State) : Result :=
  s.withFpu (s.andThen (s.loadLongInc m fun s v => { s with fpscr := Fpscr.ofWord v }) State.complete)

/-- `LDS.L @Rm+,FPUL` (rule R495): FPUL from the longword at `R[m]`, which moves on by 4. -/
def execLdsLFpul (m : Reg) (s : State) : Result :=
  s.withFpu (s.andThen (s.loadLongInc m fun s v => { s with fpul := v }) State.complete)

/-- `STS FPSCR,Rn` (rule R496): `R[n] <- FPSCR`. -/
def execStsFpscr (n : Reg) (s : State) : Result := s.withFpu (State.complete (s.setReg n s.fpscr.toWord))

/-- `STS FPUL,Rn` (rule R497): `R[n] <- FPUL`. -/
def execStsFpul (n : Reg) (s : State) : Result := s.withFpu (State.complete (s.setReg n s.fpul))

/-- `STS.L FPSCR,@-Rn` (rule R498): FPSCR to `R[n] - 4`. -/
def execStsLFpscr (n : Reg) (s : State) : Result :=
  s.withFpu (s.andThen (s.storeLongDec n s.fpscr.toWord) State.complete)

/-- `STS.L FPUL,@-Rn` (rule R499): FPUL to `R[n] - 4`. -/
def execStsLFpul (n : Reg) (s : State) : Result := s.withFpu (s.andThen (s.storeLongDec n s.fpul) State.complete)

end Sys2Proof.Machine
end

