-- ==== Sys2Proof/Machine/Logic.lean ====
section
/-! DEFINITION. The meanings of the logic instructions, in the order of the opcode table (spec/42_logic.md). -/

namespace Sys2Proof.Machine

open Sys2Proof.Config

/-- Read a byte, compute with it and write it back: two accesses, the read first (rules R72, R73). -/
def State.modifyByte (s : State) (a : Word) (f : Byte → Byte) : Result :=
  s.withLoad .byte a fun s v => s.storeAt .byte a (zext8 (f (lowByte v)))

/-- `AND Rm,Rn` (rule R261): `R[n] <- R[n] & R[m]`. -/
def execAndReg (m : Reg) (n : Reg) (s : State) : Result := State.complete (s.setReg n (s.reg n &&& s.reg m))

/-- `AND #imm,R0` (rule R262): `R[0] <- R[0] & zext_8(i)`. -/
def execAndImm (i : BitVec 8) (s : State) : Result := State.complete (s.setReg 0 (s.reg 0 &&& zext8 i))

/-- `AND.B #imm,@(R0,GBR)` (rule R263): the byte at `GBR + R[0]` is read, combined with `i` and written back. -/
def execAndB (i : BitVec 8) (s : State) : Result := s.modifyByte (eaGbrIndexed s) fun t => t &&& i

/-- `NOT Rm,Rn` (rule R264): `R[n] <- ~R[m]`. -/
def execNotReg (m : Reg) (n : Reg) (s : State) : Result := State.complete (s.setReg n (~~~ s.reg m))

/-- `OR Rm,Rn` (rule R265): `R[n] <- R[n] | R[m]`. -/
def execOrReg (m : Reg) (n : Reg) (s : State) : Result := State.complete (s.setReg n (s.reg n ||| s.reg m))

/-- `OR #imm,R0` (rule R266): `R[0] <- R[0] | zext_8(i)`. -/
def execOrImm (i : BitVec 8) (s : State) : Result := State.complete (s.setReg 0 (s.reg 0 ||| zext8 i))

/-- `OR.B #imm,@(R0,GBR)` (rule R267): the byte at `GBR + R[0]` is read, combined with `i` and written back. -/
def execOrB (i : BitVec 8) (s : State) : Result := s.modifyByte (eaGbrIndexed s) fun t => t ||| i

/-- `TAS.B @Rn` (rule R268): the byte is read and written back with bit 7 set while the bus is locked (rule R73); T says whether it was 0. -/
def execTasB (n : Reg) (s : State) : Result :=
  s.withLoad .byte (s.reg n) fun s v =>
    let s1 := State.setT { s with busLock := true } (v == 0#32)
    s1.withStore .byte (s.reg n) (v ||| 0x80#32) fun s2 => State.complete { s2 with busLock := false }

/-- `TST Rm,Rn` (rule R269): `T <- ((R[n] & R[m]) = 0)`. -/
def execTstReg (m : Reg) (n : Reg) (s : State) : Result := State.complete (s.setT (s.reg n &&& s.reg m == 0#32))

/-- `TST #imm,R0` (rule R270): `T <- ((R[0] & zext_8(i)) = 0)`. -/
def execTstImm (i : BitVec 8) (s : State) : Result := State.complete (s.setT (s.reg 0 &&& zext8 i == 0#32))

/-- `TST.B #imm,@(R0,GBR)` (rule R271): the byte at `GBR + R[0]` is read only. -/
def execTstB (i : BitVec 8) (s : State) : Result :=
  s.withLoad .byte (eaGbrIndexed s) fun s v => (s.setT (lowByte v &&& i == 0#8)).complete

/-- `XOR Rm,Rn` (rule R272): `R[n] <- R[n] ^ R[m]`. -/
def execXorReg (m : Reg) (n : Reg) (s : State) : Result := State.complete (s.setReg n (s.reg n ^^^ s.reg m))

/-- `XOR #imm,R0` (rule R273): `R[0] <- R[0] ^ zext_8(i)`. -/
def execXorImm (i : BitVec 8) (s : State) : Result := State.complete (s.setReg 0 (s.reg 0 ^^^ zext8 i))

/-- `XOR.B #imm,@(R0,GBR)` (rule R274): the byte at `GBR + R[0]` is read, combined with `i` and written back. -/
def execXorB (i : BitVec 8) (s : State) : Result := s.modifyByte (eaGbrIndexed s) fun t => t ^^^ i

end Sys2Proof.Machine
end

