-- ==== Sys2Proof/Machine/Shift.lean ====
section
/-! DEFINITION. The meanings of the shift and rotate instructions, in the order of the opcode table (spec/43_shift.md). -/

namespace Sys2Proof.Machine

open Sys2Proof.Config

/-- `ROTL Rn` (rule R291): T is the old bit 31. -/
def execRotl (n : Reg) (s : State) : Result := s.setRegT n ((s.reg n).rotateLeft 1, (s.reg n).msb)

/-- `ROTR Rn` (rule R292): T is the old bit 0. -/
def execRotr (n : Reg) (s : State) : Result := s.setRegT n ((s.reg n).rotateRight 1, (s.reg n).getLsbD 0)

/-- `ROTCL Rn` (rule R293): T enters at bit 0 and takes the old bit 31. -/
def execRotcl (n : Reg) (s : State) : Result :=
  s.setRegT n (((s.reg n) <<< 1) ||| (BitVec.ofBool s.sr.t).setWidth 32, (s.reg n).msb)

/-- `ROTCR Rn` (rule R294): T enters at bit 31 and takes the old bit 0. -/
def execRotcr (n : Reg) (s : State) : Result :=
  s.setRegT n (((s.reg n) >>> 1) ||| ((BitVec.ofBool s.sr.t).setWidth 32 <<< 31), (s.reg n).getLsbD 0)

/-- `SHAL Rn` (rule R295): T is the old bit 31. -/
def execShal (n : Reg) (s : State) : Result := s.setRegT n (s.reg n <<< 1, (s.reg n).msb)

/-- `SHAR Rn` (rule R296): bit 31 is kept, T is the old bit 0. -/
def execShar (n : Reg) (s : State) : Result := s.setRegT n ((s.reg n).sshiftRight 1, (s.reg n).getLsbD 0)

/-- `SHLL Rn` (rule R297): T is the old bit 31. -/
def execShll (n : Reg) (s : State) : Result := s.setRegT n (s.reg n <<< 1, (s.reg n).msb)

/-- `SHLR Rn` (rule R298): T is the old bit 0. -/
def execShlr (n : Reg) (s : State) : Result := s.setRegT n (s.reg n >>> 1, (s.reg n).getLsbD 0)

/-- `SHLL2 Rn` (rule R299): T is unchanged. -/
def execShll2 (n : Reg) (s : State) : Result := State.complete (s.setReg n (s.reg n <<< 2))

/-- `SHLR2 Rn` (rule R300): T is unchanged. -/
def execShlr2 (n : Reg) (s : State) : Result := State.complete (s.setReg n (s.reg n >>> 2))

/-- `SHLL8 Rn` (rule R301): T is unchanged. -/
def execShll8 (n : Reg) (s : State) : Result := State.complete (s.setReg n (s.reg n <<< 8))

/-- `SHLR8 Rn` (rule R302): T is unchanged. -/
def execShlr8 (n : Reg) (s : State) : Result := State.complete (s.setReg n (s.reg n >>> 8))

/-- `SHLL16 Rn` (rule R303): T is unchanged. -/
def execShll16 (n : Reg) (s : State) : Result := State.complete (s.setReg n (s.reg n <<< 16))

/-- `SHLR16 Rn` (rule R304): T is unchanged. -/
def execShlr16 (n : Reg) (s : State) : Result := State.complete (s.setReg n (s.reg n >>> 16))

end Sys2Proof.Machine
end

