-- ==== Sys2Proof/Machine/SystemControl.lean ====
section
/-! DEFINITION. The meanings of the system control instructions, in the order of the opcode table (spec/45_system_control.md). -/

namespace Sys2Proof.Machine

open Sys2Proof.Config

/-- `CLRT` (rule R362): `T <- 0`. -/
def execClrt (s : State) : Result := State.complete (s.setT false)

/-- `CLRMAC` (rule R363): `MACH, MACL <- 0`. -/
def execClrmac (s : State) : Result := State.complete (s.setMac 0#64)

/-- `LDC Rm,SR` (rule R364): `SR <- R[m]`, masked with H'000003F3; interrupt-disabled (rule R361). -/
def execLdcSr (m : Reg) (s : State) : Result := State.completeInhibited { s with sr := Sr.ofWord (s.reg m) }

/-- `LDC Rm,GBR` (rule R365): `GBR <- R[m]`; interrupt-disabled (rule R361). -/
def execLdcGbr (m : Reg) (s : State) : Result := State.completeInhibited { s with gbr := s.reg m }

/-- `LDC Rm,VBR` (rule R366): `VBR <- R[m]`; interrupt-disabled (rule R361). -/
def execLdcVbr (m : Reg) (s : State) : Result := State.completeInhibited { s with vbr := s.reg m }

/-- `LDC.L @Rm+,SR` (rule R367): SR from the longword at `R[m]`, which moves on by 4; interrupt-disabled (rule R361). -/
def execLdcLSr (m : Reg) (s : State) : Result :=
  s.andThen (s.loadLongInc m fun s v => { s with sr := Sr.ofWord v }) State.completeInhibited

/-- `LDC.L @Rm+,GBR` (rule R368): GBR from the longword at `R[m]`, which moves on by 4; interrupt-disabled (rule R361). -/
def execLdcLGbr (m : Reg) (s : State) : Result :=
  s.andThen (s.loadLongInc m fun s v => { s with gbr := v }) State.completeInhibited

/-- `LDC.L @Rm+,VBR` (rule R369): VBR from the longword at `R[m]`, which moves on by 4; interrupt-disabled (rule R361). -/
def execLdcLVbr (m : Reg) (s : State) : Result :=
  s.andThen (s.loadLongInc m fun s v => { s with vbr := v }) State.completeInhibited

/-- `LDS Rm,MACH` (rule R370): `MACH <- R[m]`; interrupt-disabled (rule R361). -/
def execLdsMach (m : Reg) (s : State) : Result := State.completeInhibited { s with mach := s.reg m }

/-- `LDS Rm,MACL` (rule R371): `MACL <- R[m]`; interrupt-disabled (rule R361). -/
def execLdsMacl (m : Reg) (s : State) : Result := State.completeInhibited { s with macl := s.reg m }

/-- `LDS Rm,PR` (rule R372): `PR <- R[m]`; interrupt-disabled (rule R361). -/
def execLdsPr (m : Reg) (s : State) : Result := State.completeInhibited { s with pr := s.reg m }

/-- `LDS.L @Rm+,MACH` (rule R373): MACH from the longword at `R[m]`, which moves on by 4; interrupt-disabled (rule R361). -/
def execLdsLMach (m : Reg) (s : State) : Result :=
  s.andThen (s.loadLongInc m fun s v => { s with mach := v }) State.completeInhibited

/-- `LDS.L @Rm+,MACL` (rule R374): MACL from the longword at `R[m]`, which moves on by 4; interrupt-disabled (rule R361). -/
def execLdsLMacl (m : Reg) (s : State) : Result :=
  s.andThen (s.loadLongInc m fun s v => { s with macl := v }) State.completeInhibited

/-- `LDS.L @Rm+,PR` (rule R375): PR from the longword at `R[m]`, which moves on by 4; interrupt-disabled (rule R361). -/
def execLdsLPr (m : Reg) (s : State) : Result :=
  s.andThen (s.loadLongInc m fun s v => { s with pr := v }) State.completeInhibited

/-- `NOP` (rule R376): nothing but moving on. -/
def execNop (s : State) : Result := s.complete

/-- `RTE` (rule R377): a delayed branch to the popped PC with the popped SR. -/
def execRte (s : State) : Result := s.outsideSlot s.returnFromException

/-- `SETT` (rule R378): `T <- 1`. -/
def execSett (s : State) : Result := State.complete (s.setT true)

/-- `SLEEP` (rule R379): the CPU goes to sleep; it wakes at the next address (rule R561, log entries 15 and 16). -/
def execSleep (s : State) : Result := State.complete { s with mode := .asleep }

/-- `STC SR,Rn` (rule R380): `R[n] <- SR`; interrupt-disabled (rule R361). -/
def execStcSr (n : Reg) (s : State) : Result := State.completeInhibited (s.setReg n s.sr.toWord)

/-- `STC GBR,Rn` (rule R381): `R[n] <- GBR`; interrupt-disabled (rule R361). -/
def execStcGbr (n : Reg) (s : State) : Result := State.completeInhibited (s.setReg n s.gbr)

/-- `STC VBR,Rn` (rule R382): `R[n] <- VBR`; interrupt-disabled (rule R361). -/
def execStcVbr (n : Reg) (s : State) : Result := State.completeInhibited (s.setReg n s.vbr)

/-- `STC.L SR,@-Rn` (rule R383): SR to `R[n] - 4`; interrupt-disabled (rule R361). -/
def execStcLSr (n : Reg) (s : State) : Result := s.andThen (s.storeLongDec n s.sr.toWord) State.completeInhibited

/-- `STC.L GBR,@-Rn` (rule R384): GBR to `R[n] - 4`; interrupt-disabled (rule R361). -/
def execStcLGbr (n : Reg) (s : State) : Result := s.andThen (s.storeLongDec n s.gbr) State.completeInhibited

/-- `STC.L VBR,@-Rn` (rule R385): VBR to `R[n] - 4`; interrupt-disabled (rule R361). -/
def execStcLVbr (n : Reg) (s : State) : Result := s.andThen (s.storeLongDec n s.vbr) State.completeInhibited

/-- `STS MACH,Rn` (rule R386): `R[n] <- MACH`; interrupt-disabled (rule R361). -/
def execStsMach (n : Reg) (s : State) : Result := State.completeInhibited (s.setReg n s.mach)

/-- `STS MACL,Rn` (rule R387): `R[n] <- MACL`; interrupt-disabled (rule R361). -/
def execStsMacl (n : Reg) (s : State) : Result := State.completeInhibited (s.setReg n s.macl)

/-- `STS PR,Rn` (rule R388): `R[n] <- PR`; interrupt-disabled (rule R361). -/
def execStsPr (n : Reg) (s : State) : Result := State.completeInhibited (s.setReg n s.pr)

/-- `STS.L MACH,@-Rn` (rule R389): MACH to `R[n] - 4`; interrupt-disabled (rule R361). -/
def execStsLMach (n : Reg) (s : State) : Result := s.andThen (s.storeLongDec n s.mach) State.completeInhibited

/-- `STS.L MACL,@-Rn` (rule R390): MACL to `R[n] - 4`; interrupt-disabled (rule R361). -/
def execStsLMacl (n : Reg) (s : State) : Result := s.andThen (s.storeLongDec n s.macl) State.completeInhibited

/-- `STS.L PR,@-Rn` (rule R391): PR to `R[n] - 4`; interrupt-disabled (rule R361). -/
def execStsLPr (n : Reg) (s : State) : Result := s.andThen (s.storeLongDec n s.pr) State.completeInhibited

/-- `TRAPA #imm` (rule R392): the exception of vector number `i`, saved PC `pc + 2`, SR unchanged. -/
def execTrapa (i : BitVec 8) (s : State) : Result := s.outsideSlot (s.enter i (s.pc + 2#32) none)

end Sys2Proof.Machine
end

