-- ==== Sys2Proof/Machine/Dispatch.lean ====
section
/-! DEFINITION. The dispatch of every instruction to its meaning, one arm per constructor of `Instr`. -/

namespace Sys2Proof.Machine

/-- What executing instruction `i` does in state `s`. -/
def exec (i : Instr) (s : State) : Host.Outcome State Fault Refusal :=
  match i with
  -- Data transfer instructions (spec/40_data_transfer.md)
  | .movImm imm n => Sys2Proof.Machine.execMovImm imm n s
  | .movWPc d n => Sys2Proof.Machine.execMovWPc d n s
  | .movLPc d n => Sys2Proof.Machine.execMovLPc d n s
  | .mov m n => Sys2Proof.Machine.execMov m n s
  | .movBStore m n => Sys2Proof.Machine.execMovBStore m n s
  | .movWStore m n => Sys2Proof.Machine.execMovWStore m n s
  | .movLStore m n => Sys2Proof.Machine.execMovLStore m n s
  | .movBLoad m n => Sys2Proof.Machine.execMovBLoad m n s
  | .movWLoad m n => Sys2Proof.Machine.execMovWLoad m n s
  | .movLLoad m n => Sys2Proof.Machine.execMovLLoad m n s
  | .movBPreDec m n => Sys2Proof.Machine.execMovBPreDec m n s
  | .movWPreDec m n => Sys2Proof.Machine.execMovWPreDec m n s
  | .movLPreDec m n => Sys2Proof.Machine.execMovLPreDec m n s
  | .movBPostInc m n => Sys2Proof.Machine.execMovBPostInc m n s
  | .movWPostInc m n => Sys2Proof.Machine.execMovWPostInc m n s
  | .movLPostInc m n => Sys2Proof.Machine.execMovLPostInc m n s
  | .movBStoreDisp d n => Sys2Proof.Machine.execMovBStoreDisp d n s
  | .movWStoreDisp d n => Sys2Proof.Machine.execMovWStoreDisp d n s
  | .movLStoreDisp m d n => Sys2Proof.Machine.execMovLStoreDisp m d n s
  | .movBLoadDisp d m => Sys2Proof.Machine.execMovBLoadDisp d m s
  | .movWLoadDisp d m => Sys2Proof.Machine.execMovWLoadDisp d m s
  | .movLLoadDisp d m n => Sys2Proof.Machine.execMovLLoadDisp d m n s
  | .movBStoreR0 m n => Sys2Proof.Machine.execMovBStoreR0 m n s
  | .movWStoreR0 m n => Sys2Proof.Machine.execMovWStoreR0 m n s
  | .movLStoreR0 m n => Sys2Proof.Machine.execMovLStoreR0 m n s
  | .movBLoadR0 m n => Sys2Proof.Machine.execMovBLoadR0 m n s
  | .movWLoadR0 m n => Sys2Proof.Machine.execMovWLoadR0 m n s
  | .movLLoadR0 m n => Sys2Proof.Machine.execMovLLoadR0 m n s
  | .movBStoreGbr d => Sys2Proof.Machine.execMovBStoreGbr d s
  | .movWStoreGbr d => Sys2Proof.Machine.execMovWStoreGbr d s
  | .movLStoreGbr d => Sys2Proof.Machine.execMovLStoreGbr d s
  | .movBLoadGbr d => Sys2Proof.Machine.execMovBLoadGbr d s
  | .movWLoadGbr d => Sys2Proof.Machine.execMovWLoadGbr d s
  | .movLLoadGbr d => Sys2Proof.Machine.execMovLLoadGbr d s
  | .mova d => Sys2Proof.Machine.execMova d s
  | .movt n => Sys2Proof.Machine.execMovt n s
  | .swapB m n => Sys2Proof.Machine.execSwapB m n s
  | .swapW m n => Sys2Proof.Machine.execSwapW m n s
  | .xtrct m n => Sys2Proof.Machine.execXtrct m n s
  -- Arithmetic instructions (spec/41_arithmetic.md)
  | .add m n => Sys2Proof.Machine.execAdd m n s
  | .addImm imm n => Sys2Proof.Machine.execAddImm imm n s
  | .addc m n => Sys2Proof.Machine.execAddc m n s
  | .addv m n => Sys2Proof.Machine.execAddv m n s
  | .cmpEqImm imm => Sys2Proof.Machine.execCmpEqImm imm s
  | .cmpEq m n => Sys2Proof.Machine.execCmpEq m n s
  | .cmpHs m n => Sys2Proof.Machine.execCmpHs m n s
  | .cmpGe m n => Sys2Proof.Machine.execCmpGe m n s
  | .cmpHi m n => Sys2Proof.Machine.execCmpHi m n s
  | .cmpGt m n => Sys2Proof.Machine.execCmpGt m n s
  | .cmpPl n => Sys2Proof.Machine.execCmpPl n s
  | .cmpPz n => Sys2Proof.Machine.execCmpPz n s
  | .cmpStr m n => Sys2Proof.Machine.execCmpStr m n s
  | .div1 m n => Sys2Proof.Machine.execDiv1 m n s
  | .div0s m n => Sys2Proof.Machine.execDiv0s m n s
  | .div0u => Sys2Proof.Machine.execDiv0u s
  | .dmulsL m n => Sys2Proof.Machine.execDmulsL m n s
  | .dmuluL m n => Sys2Proof.Machine.execDmuluL m n s
  | .dt n => Sys2Proof.Machine.execDt n s
  | .extsB m n => Sys2Proof.Machine.execExtsB m n s
  | .extsW m n => Sys2Proof.Machine.execExtsW m n s
  | .extuB m n => Sys2Proof.Machine.execExtuB m n s
  | .extuW m n => Sys2Proof.Machine.execExtuW m n s
  | .macL m n => Sys2Proof.Machine.execMacL m n s
  | .macW m n => Sys2Proof.Machine.execMacW m n s
  | .mulL m n => Sys2Proof.Machine.execMulL m n s
  | .mulsW m n => Sys2Proof.Machine.execMulsW m n s
  | .muluW m n => Sys2Proof.Machine.execMuluW m n s
  | .neg m n => Sys2Proof.Machine.execNeg m n s
  | .negc m n => Sys2Proof.Machine.execNegc m n s
  | .sub m n => Sys2Proof.Machine.execSub m n s
  | .subc m n => Sys2Proof.Machine.execSubc m n s
  | .subv m n => Sys2Proof.Machine.execSubv m n s
  -- Logic instructions (spec/42_logic.md)
  | .andReg m n => Sys2Proof.Machine.execAndReg m n s
  | .andImm imm => Sys2Proof.Machine.execAndImm imm s
  | .andB imm => Sys2Proof.Machine.execAndB imm s
  | .notReg m n => Sys2Proof.Machine.execNotReg m n s
  | .orReg m n => Sys2Proof.Machine.execOrReg m n s
  | .orImm imm => Sys2Proof.Machine.execOrImm imm s
  | .orB imm => Sys2Proof.Machine.execOrB imm s
  | .tasB n => Sys2Proof.Machine.execTasB n s
  | .tstReg m n => Sys2Proof.Machine.execTstReg m n s
  | .tstImm imm => Sys2Proof.Machine.execTstImm imm s
  | .tstB imm => Sys2Proof.Machine.execTstB imm s
  | .xorReg m n => Sys2Proof.Machine.execXorReg m n s
  | .xorImm imm => Sys2Proof.Machine.execXorImm imm s
  | .xorB imm => Sys2Proof.Machine.execXorB imm s
  -- Shift instructions (spec/43_shift.md)
  | .rotl n => Sys2Proof.Machine.execRotl n s
  | .rotr n => Sys2Proof.Machine.execRotr n s
  | .rotcl n => Sys2Proof.Machine.execRotcl n s
  | .rotcr n => Sys2Proof.Machine.execRotcr n s
  | .shal n => Sys2Proof.Machine.execShal n s
  | .shar n => Sys2Proof.Machine.execShar n s
  | .shll n => Sys2Proof.Machine.execShll n s
  | .shlr n => Sys2Proof.Machine.execShlr n s
  | .shll2 n => Sys2Proof.Machine.execShll2 n s
  | .shlr2 n => Sys2Proof.Machine.execShlr2 n s
  | .shll8 n => Sys2Proof.Machine.execShll8 n s
  | .shlr8 n => Sys2Proof.Machine.execShlr8 n s
  | .shll16 n => Sys2Proof.Machine.execShll16 n s
  | .shlr16 n => Sys2Proof.Machine.execShlr16 n s
  -- Branch instructions (spec/44_branch.md)
  | .bf d => Sys2Proof.Machine.execBf d s
  | .bfS d => Sys2Proof.Machine.execBfS d s
  | .bt d => Sys2Proof.Machine.execBt d s
  | .btS d => Sys2Proof.Machine.execBtS d s
  | .bra d => Sys2Proof.Machine.execBra d s
  | .braf m => Sys2Proof.Machine.execBraf m s
  | .bsr d => Sys2Proof.Machine.execBsr d s
  | .bsrf m => Sys2Proof.Machine.execBsrf m s
  | .jmp m => Sys2Proof.Machine.execJmp m s
  | .jsr m => Sys2Proof.Machine.execJsr m s
  | .rts => Sys2Proof.Machine.execRts s
  -- System control instructions (spec/45_system_control.md)
  | .clrt => Sys2Proof.Machine.execClrt s
  | .clrmac => Sys2Proof.Machine.execClrmac s
  | .ldcSr m => Sys2Proof.Machine.execLdcSr m s
  | .ldcGbr m => Sys2Proof.Machine.execLdcGbr m s
  | .ldcVbr m => Sys2Proof.Machine.execLdcVbr m s
  | .ldcLSr m => Sys2Proof.Machine.execLdcLSr m s
  | .ldcLGbr m => Sys2Proof.Machine.execLdcLGbr m s
  | .ldcLVbr m => Sys2Proof.Machine.execLdcLVbr m s
  | .ldsMach m => Sys2Proof.Machine.execLdsMach m s
  | .ldsMacl m => Sys2Proof.Machine.execLdsMacl m s
  | .ldsPr m => Sys2Proof.Machine.execLdsPr m s
  | .ldsLMach m => Sys2Proof.Machine.execLdsLMach m s
  | .ldsLMacl m => Sys2Proof.Machine.execLdsLMacl m s
  | .ldsLPr m => Sys2Proof.Machine.execLdsLPr m s
  | .nop => Sys2Proof.Machine.execNop s
  | .rte => Sys2Proof.Machine.execRte s
  | .sett => Sys2Proof.Machine.execSett s
  | .sleep => Sys2Proof.Machine.execSleep s
  | .stcSr n => Sys2Proof.Machine.execStcSr n s
  | .stcGbr n => Sys2Proof.Machine.execStcGbr n s
  | .stcVbr n => Sys2Proof.Machine.execStcVbr n s
  | .stcLSr n => Sys2Proof.Machine.execStcLSr n s
  | .stcLGbr n => Sys2Proof.Machine.execStcLGbr n s
  | .stcLVbr n => Sys2Proof.Machine.execStcLVbr n s
  | .stsMach n => Sys2Proof.Machine.execStsMach n s
  | .stsMacl n => Sys2Proof.Machine.execStsMacl n s
  | .stsPr n => Sys2Proof.Machine.execStsPr n s
  | .stsLMach n => Sys2Proof.Machine.execStsLMach n s
  | .stsLMacl n => Sys2Proof.Machine.execStsLMacl n s
  | .stsLPr n => Sys2Proof.Machine.execStsLPr n s
  | .trapa imm => Sys2Proof.Machine.execTrapa imm s
  -- Floating-point instructions (spec/46_floating_point.md)
  | .fabs n => Sys2Proof.Machine.execFabs n s
  | .fadd m n => Sys2Proof.Machine.execFadd m n s
  | .fcmpEq m n => Sys2Proof.Machine.execFcmpEq m n s
  | .fcmpGt m n => Sys2Proof.Machine.execFcmpGt m n s
  | .fdiv m n => Sys2Proof.Machine.execFdiv m n s
  | .fldi0 n => Sys2Proof.Machine.execFldi0 n s
  | .fldi1 n => Sys2Proof.Machine.execFldi1 n s
  | .flds m => Sys2Proof.Machine.execFlds m s
  | .float n => Sys2Proof.Machine.execFloat n s
  | .fmac m n => Sys2Proof.Machine.execFmac m n s
  | .fmov m n => Sys2Proof.Machine.execFmov m n s
  | .fmovLoadR0 m n => Sys2Proof.Machine.execFmovLoadR0 m n s
  | .fmovPostInc m n => Sys2Proof.Machine.execFmovPostInc m n s
  | .fmovLoad m n => Sys2Proof.Machine.execFmovLoad m n s
  | .fmovStoreR0 m n => Sys2Proof.Machine.execFmovStoreR0 m n s
  | .fmovPreDec m n => Sys2Proof.Machine.execFmovPreDec m n s
  | .fmovStore m n => Sys2Proof.Machine.execFmovStore m n s
  | .fmul m n => Sys2Proof.Machine.execFmul m n s
  | .fneg n => Sys2Proof.Machine.execFneg n s
  | .fsts n => Sys2Proof.Machine.execFsts n s
  | .fsub m n => Sys2Proof.Machine.execFsub m n s
  | .ftrc m => Sys2Proof.Machine.execFtrc m s
  -- FPU-related CPU instructions (spec/47_fpu_cpu.md)
  | .ldsFpscr m => Sys2Proof.Machine.execLdsFpscr m s
  | .ldsFpul m => Sys2Proof.Machine.execLdsFpul m s
  | .ldsLFpscr m => Sys2Proof.Machine.execLdsLFpscr m s
  | .ldsLFpul m => Sys2Proof.Machine.execLdsLFpul m s
  | .stsFpscr n => Sys2Proof.Machine.execStsFpscr n s
  | .stsFpul n => Sys2Proof.Machine.execStsFpul n s
  | .stsLFpscr n => Sys2Proof.Machine.execStsLFpscr n s
  | .stsLFpul n => Sys2Proof.Machine.execStsLFpul n s

end Sys2Proof.Machine
end

