-- ==== Sys2Proof/Machine/Events.lean ====
section
/-! DEFINITION. What comes from outside the instruction stream: the platform's inputs, reset, interrupts, and the acceptance
of a pending FPU exception (spec/60_exceptions.md, spec/70_reset_and_hazards.md). -/

namespace Sys2Proof.Machine

open Sys2Proof.Config

/-! ## The platform -/

/-- The platform acts before a step (log entry 7): it offers its requests, sets the module stop input, and settles what
other masters will write before each access of the step. With no input left its outputs stay and no other master writes.
Answers a reset event too. -/
def State.absorb (s : State) : State × Option ResetKind :=
  match s.inputs with
  | [] => ({ s with bus := [] }, none)
  | p :: rest => ({ s with inputs := rest, irq := p.irq, fpuStopped := p.fpuStopped, bus := p.busWrites }, p.reset)

/-! ## Reset -/

/-- Sixteen free values from the draw `k` on. -/
def freeWords (k : Nat) : Vector Word 16 := Vector.ofFn fun i => Config.freeWord (k + i.val)

/-- Where a reset of this kind reads PC; SP stands 4 bytes above (rules R571, R572). -/
def resetVector (p : Platform) : ResetKind → Word
  | .powerOn => p.resetVectorAddr
  | .manual => p.manualResetVectorAddr

/-- The state a reset event leaves (rules R570, R573), with PC and SP as read from the reset vector. Every register the spec
calls arbitrary holds a free value (decision D18, log entry 19); memory, the platform and the requests it offers stay. DESIGN
CHOICE: the recent stores stay too, so that fetches after a reset may still miss a store made just before it, on which
decision D15 and rule R570 are silent (log entry 20). -/
def State.afterReset (s : State) (pc sp : Word) : State :=
  { s with
    regs := (freeWords s.free).set 15 sp
    sr := { m := Config.freeBit s.free, q := Config.freeBit (s.free + 1), i := 0xF#4,
            s := Config.freeBit (s.free + 2), t := Config.freeBit (s.free + 3) }
    gbr := Config.freeWord (s.free + 16)
    vbr := 0x00000000#32
    mach := Config.freeWord (s.free + 17)
    macl := Config.freeWord (s.free + 18)
    pr := Config.freeWord (s.free + 19)
    pc := pc
    frs := freeWords (s.free + 20)
    fpul := Config.freeWord (s.free + 36)
    fpscr := Fpscr.ofWord 0x00040001#32
    slot := none
    intInhibit := false
    fpuPending := none
    mode := .running
    fpuStopped := false
    busLock := false
    free := s.free + 37 }

/-- The reset sequence (rule R570): PC and then SP are read from the reset vector, and nothing is saved. -/
def State.resetSequence (s : State) (k : ResetKind) : Result :=
  match s.load .long (resetVector s.platform k) with
  | .fault f => .fault f
  | .refused r => .refused r
  | .addressError => .refused .resetVectorUnreadable
  | .ok (s1, pc) =>
    match s1.load .long (resetVector s.platform k + 4#32) with
    | .fault f => .fault f
    | .refused r => .refused r
    | .addressError => .refused .resetVectorUnreadable
    | .ok (s2, sp) => .next (s2.afterReset pc sp)

/-! ## Interrupts -/

/-- A request that may be accepted with the mask `i` (rule R541): NMI, level 16, always; levels 1 to 15 when above the mask. -/
def irqEligible (i : BitVec 4) (r : IrqRequest) : Bool :=
  r.level == 16 || (decide (1 ≤ r.level) && decide (r.level ≤ 15) && decide (i.toNat < r.level))

/-- The priority of a request (rules R540, R543, R545): its level, and at level 15 the user break first (log entry 9). -/
def irqPriority (vec : VecNum) (r : IrqRequest) : Nat :=
  2 * r.level + (if r.level = 15 ∧ r.vector = vec.userBreak then 1 else 0)

/-- The eligible request of the highest priority, the first of equals (rule R540, log entry 9). -/
def pickIrq (vec : VecNum) (i : BitVec 4) : List IrqRequest → Option IrqRequest
  | [] => none
  | r :: rest =>
    match pickIrq vec i rest with
    | none => if irqEligible i r then some r else none
    | some best => if irqEligible i r ∧ irqPriority vec best ≤ irqPriority vec r then some r else some best

/-- The vector number at which a request is entered (rules R514, R543): for NMI that of the parameter `VecNum`, and the
request's own below it (log entry 9). -/
def irqVector (vec : VecNum) (r : IrqRequest) : BitVec 8 := if r.level = 16 then vec.nmi else r.vector

/-- Accept a request at the boundary before the instruction at `pc` (rules R531, R532, R540): the mask becomes its level, 15
for NMI, and the request is no longer offered. DESIGN CHOICE: it counts as accepted when the entry begins, also where the
entry faults and an address error is taken instead (log entry 8). -/
def State.enterIrq (s : State) (r : IrqRequest) : Result :=
  State.enter { s with irq := s.irq.erase r, mode := .running } (irqVector s.platform.vec r) s.pc
    (some (BitVec.ofNat 4 (min r.level 15)))

/-- Accept the pending FPU exception at the boundary before the instruction at `pc`: vector number 13 (rules R513, R527). -/
def State.enterFpu (s : State) : Result :=
  State.enter { s with fpuPending := none, mode := .running } 13#8 s.pc none

/-- May anything asynchronous be accepted before the instruction at `pc`? Not between a delayed branch and its slot, and not
after an interrupt-disabled instruction (rule R542). -/
def State.boundaryOpen (s : State) : Bool := s.slot.isNone && !s.intInhibit

/-- What is accepted at the boundary before the instruction at `pc`, if anything (rules R540, R545 step 3): the pending FPU
exception once its count has run out, then the interrupt of the highest priority. -/
def State.boundaryEvent (s : State) : Option Result :=
  if s.boundaryOpen then
    if s.fpuPending = some 0 then some s.enterFpu
    else (pickIrq s.platform.vec s.sr.i s.irq).map s.enterIrq
  else none

/-- One time step asleep (rule R561): a pending FPU exception or an accepted interrupt wakes the CPU, and nothing else does. -/
def State.sleepStep (s : State) : Result :=
  if s.fpuPending.isSome then s.enterFpu
  else
    match pickIrq s.platform.vec s.sr.i s.irq with
    | some r => s.enterIrq r
    | none => .next s

end Sys2Proof.Machine
end

