-- ==== Sys2Proof/Machine/Fetch.lean ====
section
/-! DEFINITION. Instruction fetch (rules R64, R76): which bytes the fetch of an instruction reads. -/

namespace Sys2Proof.Machine

open Sys2Proof.Config

/-- The byte a recent store replaced at an address, if the store covers it. -/
def StoreRecord.oldByte (r : StoreRecord) (a : Nat) : Option Byte :=
  if r.addr ≤ a then r.old[a - r.addr]? else none

/-- The byte a fetch reads at address `a`, where memory holds `now` (decision D15, log entry 20): going back through the
recent stores, a store that the fetch does not see gives way to the byte it replaced. `draw` numbers the free choices. -/
def fetchByte : List StoreRecord → Nat → Nat → Byte → Byte
  | [], _, _, now => now
  | r :: older, draw, a, now =>
    match r.oldByte a with
    | none => fetchByte older (draw + 1) a now
    | some old => if Config.fetchSeesStore draw then now else fetchByte older (draw + 1) a old

/-- The instruction code a fetch at `a` reads, the byte at the lower address in bits 15 to 8 (rules R61, R90). -/
def State.fetchedCode (s : State) (a : Nat) : Half :=
  fetchByte s.recent s.free a (s.mem.read a) ++ fetchByte s.recent s.free (a + 1) (s.mem.read (a + 1))

/-- One fetch later: a store is missed by at most four fetches (decision D15). -/
def ageStores : List StoreRecord → List StoreRecord
  | [] => []
  | r :: rest => if r.left ≤ 1 then ageStores rest else { r with left := r.left - 1 } :: ageStores rest

/-- The state in which a fetched instruction executes: the recent stores are one fetch older, the free choices the fetch
drew are used up, and a pending FPU exception is one instruction nearer to its acceptance (rule R527). -/
def State.afterFetch (s : State) : State :=
  { s with
    recent := ageStores s.recent
    free := s.free + s.recent.length
    fpuPending := s.fpuPending.map (· - 1) }

/-- Fetch the instruction code at `pc` (rule R64), after the other bus masters' turn: an odd `pc` is an address error. -/
def State.fetch (s : State) : Access (State × Half) :=
  match checkAccess s.platform.memMap .fetch .word s.pc with
  | .ok _ => .ok (s.busTurn, s.busTurn.fetchedCode s.pc.toNat)
  | .addressError => .addressError
  | .fault f => .fault f
  | .refused r => .refused r

/-- A fetch at `pc` is an address error (rules R516, R531): the saved PC is `pc`, that of a slot instruction too, whose fetch
is step 3 of rule R322 (log entry 17). -/
def State.raiseFetchError (s : State) : Result := s.enterAddressError s.pc

end Sys2Proof.Machine
end

