-- ==== Sys2Proof/Machine/Step.lean ====
section
/-! DEFINITION. One step of the machine: the platform acts, and then the CPU resets, accepts one event, or executes one
instruction. -/

namespace Sys2Proof.Machine

open Sys2Proof.Config

/-- Execute the code that was fetched (rules R115, R325): an unassigned code is an illegal instruction. -/
def State.executeCode (s : State) (code : Half) : Result :=
  match decodeWord code with
  | some i => exec i s
  | none => s.raiseIllegal

/-- Fetch and execute the instruction at `pc` (rule R545 step 2). -/
def State.executeNext (s : State) : Result :=
  match s.fetch with
  | .ok (s', code) => s'.afterFetch.executeCode code
  | .addressError => s.raiseFetchError
  | .fault f => .fault f
  | .refused r => .refused r

/-- A step of program execution: what the boundary before the instruction accepts, or the instruction (rules R540, R545). -/
def State.runStep (s : State) : Result :=
  match s.boundaryEvent with
  | some entry => entry
  | none => s.executeNext

/-- A step of the CPU in the processing state it is in (rule R560). -/
def State.cpuStep (s : State) : Result :=
  match s.mode with
  | .running => s.runStep
  | .asleep => s.sleepStep
  | .doubleFault => .next s

/-- One step (rules R14, R545): the platform acts first, and a reset event goes before everything. -/
def step (s : State) : Host.Outcome State Fault Refusal :=
  match s.absorb with
  | (s', some k) => s'.resetSequence k
  | (s', none) => s'.cpuStep

/-- The state `s` with the instruction whose bits are `w` (one word, bit 0 its least significant bit, every bit from `nbits`
on zero) stored where the next step fetches, and with all that would keep that step from fetching it out of the way: the
CPU runs, PC is even and backed for fetches, no event is due, and no recent store hides the code (log entry 3). -/
def State.withFetchWord (s : State) (nbits w : Nat) : State :=
  let pc := s.pc &&& 0xFFFFFFFE#32
  let code : Region := { base := pc.toNat, size := 2, kind := some .fetch, width := some .word, backing := .ram }
  let map :=
    if backingOf s.platform.memMap .fetch .word pc.toNat = .ram then s.platform.memMap else code :: s.platform.memMap
  { s with
    pc := pc
    mem := s.mem.write16 pc.toNat (BitVec.ofNat 16 (w % 2 ^ nbits))
    platform := { s.platform with memMap := map }
    mode := .running
    inputs := []
    bus := []
    irq := []
    fpuPending := none
    recent := [] }

end Sys2Proof.Machine
end

