-- ==== Sys2Proof/Safety.lean ====
section
/-! DEFINITION. What a good state is: the terms in which statements about runs are made. -/

namespace Sys2Proof.Machine

open Sys2Proof.Config

/-- Nothing comes between a delayed branch and its slot (rules R323, R542): wherever a slot is pending the machine inhibits
interrupts and does not sleep. -/
def State.slotGuarded (s : State) : Bool := s.slot.isNone || (s.intInhibit && s.mode != .asleep)

/-- The recent stores are of the last four fetches (decision D15). -/
def State.storesRecent (s : State) : Bool := s.recent.all fun r => decide (1 ≤ r.left) && decide (r.left ≤ 4)

/-- The pending FPU exception is within the platform's bound (rule R527). -/
def State.skidBounded (s : State) : Bool := s.fpuPending.all fun k => decide (k ≤ s.platform.fpuExcSkid)

/-- The invariant that every step keeps: memory is in canonical form, a pending slot is guarded, the bus is free between
instructions, the recent stores are recent, and a pending FPU exception is within its bound. -/
def State.Inv (s : State) : Bool :=
  s.mem.wf && s.slotGuarded && !s.busLock && s.storesRecent && s.skidBounded

/-- An access to this address passes: it is aligned and the platform backs it with RAM (rules R62, R70). -/
def Accessible (s : State) (k : AccessKind) (w : Width) (a : Word) : Prop :=
  a.toNat % widthBytes w = 0 ∧ backingOf s.platform.memMap k w a.toNat = .ram

end Sys2Proof.Machine
end

