-- ==== Sys2Proof/WellFormed.lean ====
section
/-! DEFINITION. When an instruction is well formed. No operand value is ever illegal (rule R94: every bit of an assigned
code is fixed or an operand, and every operand value is legal; the types of `Instr` already hold the operands to their
fields), so an instruction is ill formed only where the context it stands in makes it illegal: a PC-rewriting instruction
in a delay slot (rules R118, R325) and an FPU instruction while the FPU is stopped (rules R119, R523). -/

namespace Sys2Proof

/-- The thirteen instructions that rewrite PC and are slot illegal in a delay slot (rules R118, R325). -/
def Instr.rewritesPc : Instr → Bool
  | .bf _ | .bfS _ | .bt _ | .btS _ | .bra _ | .braf _ | .bsr _ | .bsrf _ | .jmp _ | .jsr _ | .rts | .rte
  | .trapa _ => true
  | .movImm _ _ | .movWPc _ _ | .movLPc _ _ | .mov _ _ | .movBStore _ _ | .movWStore _ _ | .movLStore _ _
  | .movBLoad _ _ | .movWLoad _ _ | .movLLoad _ _ | .movBPreDec _ _ | .movWPreDec _ _ | .movLPreDec _ _
  | .movBPostInc _ _ | .movWPostInc _ _ | .movLPostInc _ _ | .movBStoreDisp _ _ | .movWStoreDisp _ _
  | .movLStoreDisp _ _ _ | .movBLoadDisp _ _ | .movWLoadDisp _ _ | .movLLoadDisp _ _ _ | .movBStoreR0 _ _
  | .movWStoreR0 _ _ | .movLStoreR0 _ _ | .movBLoadR0 _ _ | .movWLoadR0 _ _ | .movLLoadR0 _ _
  | .movBStoreGbr _ | .movWStoreGbr _ | .movLStoreGbr _ | .movBLoadGbr _ | .movWLoadGbr _ | .movLLoadGbr _
  | .mova _ | .movt _ | .swapB _ _ | .swapW _ _ | .xtrct _ _ | .add _ _ | .addImm _ _ | .addc _ _ | .addv _ _
  | .cmpEqImm _ | .cmpEq _ _ | .cmpHs _ _ | .cmpGe _ _ | .cmpHi _ _ | .cmpGt _ _ | .cmpPl _ | .cmpPz _
  | .cmpStr _ _ | .div1 _ _ | .div0s _ _ | .div0u | .dmulsL _ _ | .dmuluL _ _ | .dt _ | .extsB _ _
  | .extsW _ _ | .extuB _ _ | .extuW _ _ | .macL _ _ | .macW _ _ | .mulL _ _ | .mulsW _ _ | .muluW _ _
  | .neg _ _ | .negc _ _ | .sub _ _ | .subc _ _ | .subv _ _ | .andReg _ _ | .andImm _ | .andB _ | .notReg _ _
  | .orReg _ _ | .orImm _ | .orB _ | .tasB _ | .tstReg _ _ | .tstImm _ | .tstB _ | .xorReg _ _ | .xorImm _
  | .xorB _ | .rotl _ | .rotr _ | .rotcl _ | .rotcr _ | .shal _ | .shar _ | .shll _ | .shlr _ | .shll2 _
  | .shlr2 _ | .shll8 _ | .shlr8 _ | .shll16 _ | .shlr16 _ | .clrt | .clrmac | .ldcSr _ | .ldcGbr _
  | .ldcVbr _ | .ldcLSr _ | .ldcLGbr _ | .ldcLVbr _ | .ldsMach _ | .ldsMacl _ | .ldsPr _ | .ldsLMach _
  | .ldsLMacl _ | .ldsLPr _ | .nop | .sett | .sleep | .stcSr _ | .stcGbr _ | .stcVbr _ | .stcLSr _
  | .stcLGbr _ | .stcLVbr _ | .stsMach _ | .stsMacl _ | .stsPr _ | .stsLMach _ | .stsLMacl _ | .stsLPr _
  | .fabs _ | .fadd _ _ | .fcmpEq _ _ | .fcmpGt _ _ | .fdiv _ _ | .fldi0 _ | .fldi1 _ | .flds _ | .float _
  | .fmac _ _ | .fmov _ _ | .fmovLoadR0 _ _ | .fmovPostInc _ _ | .fmovLoad _ _ | .fmovStoreR0 _ _
  | .fmovPreDec _ _ | .fmovStore _ _ | .fmul _ _ | .fneg _ | .fsts _ | .fsub _ _ | .ftrc _ | .ldsFpscr _
  | .ldsFpul _ | .ldsLFpscr _ | .ldsLFpul _ | .stsFpscr _ | .stsFpul _ | .stsLFpscr _ | .stsLFpul _ => false

/-- The 22 floating-point and 8 FPU-related CPU instructions, illegal while the FPU is stopped (rule R119). -/
def Instr.usesFpu : Instr → Bool
  | .fabs _ | .fadd _ _ | .fcmpEq _ _ | .fcmpGt _ _ | .fdiv _ _ | .fldi0 _ | .fldi1 _ | .flds _ | .float _
  | .fmac _ _ | .fmov _ _ | .fmovLoadR0 _ _ | .fmovPostInc _ _ | .fmovLoad _ _ | .fmovStoreR0 _ _
  | .fmovPreDec _ _ | .fmovStore _ _ | .fmul _ _ | .fneg _ | .fsts _ | .fsub _ _ | .ftrc _ | .ldsFpscr _
  | .ldsFpul _ | .ldsLFpscr _ | .ldsLFpul _ | .stsFpscr _ | .stsFpul _ | .stsLFpscr _ | .stsLFpul _ => true
  | .movImm _ _ | .movWPc _ _ | .movLPc _ _ | .mov _ _ | .movBStore _ _ | .movWStore _ _ | .movLStore _ _
  | .movBLoad _ _ | .movWLoad _ _ | .movLLoad _ _ | .movBPreDec _ _ | .movWPreDec _ _ | .movLPreDec _ _
  | .movBPostInc _ _ | .movWPostInc _ _ | .movLPostInc _ _ | .movBStoreDisp _ _ | .movWStoreDisp _ _
  | .movLStoreDisp _ _ _ | .movBLoadDisp _ _ | .movWLoadDisp _ _ | .movLLoadDisp _ _ _ | .movBStoreR0 _ _
  | .movWStoreR0 _ _ | .movLStoreR0 _ _ | .movBLoadR0 _ _ | .movWLoadR0 _ _ | .movLLoadR0 _ _
  | .movBStoreGbr _ | .movWStoreGbr _ | .movLStoreGbr _ | .movBLoadGbr _ | .movWLoadGbr _ | .movLLoadGbr _
  | .mova _ | .movt _ | .swapB _ _ | .swapW _ _ | .xtrct _ _ | .add _ _ | .addImm _ _ | .addc _ _ | .addv _ _
  | .cmpEqImm _ | .cmpEq _ _ | .cmpHs _ _ | .cmpGe _ _ | .cmpHi _ _ | .cmpGt _ _ | .cmpPl _ | .cmpPz _
  | .cmpStr _ _ | .div1 _ _ | .div0s _ _ | .div0u | .dmulsL _ _ | .dmuluL _ _ | .dt _ | .extsB _ _
  | .extsW _ _ | .extuB _ _ | .extuW _ _ | .macL _ _ | .macW _ _ | .mulL _ _ | .mulsW _ _ | .muluW _ _
  | .neg _ _ | .negc _ _ | .sub _ _ | .subc _ _ | .subv _ _ | .andReg _ _ | .andImm _ | .andB _ | .notReg _ _
  | .orReg _ _ | .orImm _ | .orB _ | .tasB _ | .tstReg _ _ | .tstImm _ | .tstB _ | .xorReg _ _ | .xorImm _
  | .xorB _ | .rotl _ | .rotr _ | .rotcl _ | .rotcr _ | .shal _ | .shar _ | .shll _ | .shlr _ | .shll2 _
  | .shlr2 _ | .shll8 _ | .shlr8 _ | .shll16 _ | .shlr16 _ | .bf _ | .bfS _ | .bt _ | .btS _ | .bra _
  | .braf _ | .bsr _ | .bsrf _ | .jmp _ | .jsr _ | .rts | .clrt | .clrmac | .ldcSr _ | .ldcGbr _ | .ldcVbr _
  | .ldcLSr _ | .ldcLGbr _ | .ldcLVbr _ | .ldsMach _ | .ldsMacl _ | .ldsPr _ | .ldsLMach _ | .ldsLMacl _
  | .ldsLPr _ | .nop | .rte | .sett | .sleep | .stcSr _ | .stcGbr _ | .stcVbr _ | .stcLSr _ | .stcLGbr _
  | .stcLVbr _ | .stsMach _ | .stsMacl _ | .stsPr _ | .stsLMach _ | .stsLMacl _ | .stsLPr _ | .trapa _ => false

/-- Where an instruction stands: in the delay slot of a taken delayed branch or not, with the FPU stopped or not. -/
structure Context where
  /-- The instruction is the slot instruction of a taken delayed branch (rule R322). -/
  inSlot : Bool
  /-- The FPU is stopped by its module stop bit (rule R523). -/
  fpuStopped : Bool
  deriving DecidableEq, Repr

/-- The instruction is legal where it stands: neither a slot illegal instruction (rule R325) nor an FPU instruction of a
stopped FPU (rule R119). -/
def Instr.wellFormed (c : Context) (i : Instr) : Bool :=
  !(c.inSlot && i.rewritesPc) && !(c.fpuStopped && i.usesFpu)

end Sys2Proof
end

