-- ==== Sys2Proof/Certificates/Slice0/Obligations.lean ====
section
/-! DEFINITION. The statements for the provers, as `def Obligations.<Name> : Prop`, after the vocabulary they are written in.
The vocabulary says in plain arithmetic what the rules of spec/ say; it does not call the meanings it speaks of. -/

open Sys2Proof Sys2Proof.Machine Sys2Proof.Config

namespace Sys2Proof.Says

/-! ## Codes -/

/-- The code `gggg nnnn mmmm xxxx` (rule R91). -/
def nmCode (g : Nat) (n m : Fin 16) (x : Nat) : Half := BitVec.ofNat 16 (g * 4096 + n.val * 256 + m.val * 16 + x)

/-- The code `gggg nnnn` followed by a fixed byte (formats n and m). -/
def nCode (g : Nat) (n : Fin 16) (low : Nat) : Half := BitVec.ofNat 16 (g * 4096 + n.val * 256 + low)

/-- The code `gggg nnnn` followed by an operand byte (formats ni and nd8). -/
def nbCode (g : Nat) (n : Fin 16) (b : BitVec 8) : Half := BitVec.ofNat 16 (g * 4096 + n.val * 256 + b.toNat)

/-- A fixed byte followed by an operand byte (formats i and d). -/
def byteCode (high : Nat) (b : BitVec 8) : Half := BitVec.ofNat 16 (high * 256 + b.toNat)

/-- A fixed byte followed by a register and a 4-bit displacement (formats md and nd4). -/
def dispCode (high : Nat) (n : Fin 16) (d : BitVec 4) : Half := BitVec.ofNat 16 (high * 256 + n.val * 16 + d.toNat)

/-- The code `gggg nnnn mmmm dddd` (format nmd). -/
def nmdCode (g : Nat) (n m : Fin 16) (d : BitVec 4) : Half :=
  BitVec.ofNat 16 (g * 4096 + n.val * 256 + m.val * 16 + d.toNat)

/-- The code `gggg dddd dddd dddd` (format d12). -/
def d12Code (g : Nat) (d : BitVec 12) : Half := BitVec.ofNat 16 (g * 4096 + d.toNat)

/-- The codes that no instruction owns, as the table of rule R116 lists them. -/
def Unassigned (w : Half) : Prop :=
  let g := w.toNat / 4096
  let n := w.toNat / 256 % 16
  let fx := w.toNat / 16 % 16
  let x := w.toNat % 16
  (g = 0 ∧ (x = 0 ∨ x = 1
      ∨ (x = 2 ∧ fx ∉ [0, 1, 2])
      ∨ (x = 3 ∧ fx ∉ [0, 2])
      ∨ (x = 8 ∧ ¬(n = 0 ∧ fx ∈ [0, 1, 2]))
      ∨ (x = 9 ∧ fx ≠ 2 ∧ ¬(n = 0 ∧ fx ∈ [0, 1]))
      ∨ (x = 10 ∧ fx ∉ [0, 1, 2, 5, 6])
      ∨ (x = 11 ∧ ¬(n = 0 ∧ fx ∈ [0, 1, 2]))))
  ∨ (g = 2 ∧ x = 3)
  ∨ (g = 3 ∧ x ∈ [1, 9])
  ∨ (g = 4 ∧ ((x ∈ [0, 1, 3, 5, 7, 8, 9, 11, 14] ∧ fx ∉ [0, 1, 2])
      ∨ (x ∈ [2, 6, 10] ∧ fx ∉ [0, 1, 2, 5, 6])
      ∨ (x = 4 ∧ fx ∉ [0, 2])
      ∨ x ∈ [12, 13]))
  ∨ (g = 8 ∧ n ∈ [2, 3, 6, 7, 10, 12, 14])
  ∨ (g = 15 ∧ ((x = 13 ∧ fx ∈ [6, 7, 10, 11, 12, 13, 14, 15]) ∨ x = 15))

/-! ## Numbers -/

/-- A number below `2^k` read as a two's complement number of `k` bits. -/
def signed (k : Nat) (u : Nat) : Int := if u < 2 ^ (k - 1) then (u : Int) else (u : Int) - 2 ^ k

/-- The bit a Boolean stands for. -/
def bit (b : Bool) : Nat := if b then 1 else 0

/-- The `n` bytes from address `a` on as one number, the byte at the lowest address counting most (rule R61). -/
def bytesValue (m : Memory) (a : Nat) : Nat → Nat
  | 0 => 0
  | n + 1 => bytesValue m a n * 256 + (m.read (a + n)).toNat

/-- What a register holds after a load (rules R61, R66): the big-endian value, sign-extended. -/
def loaded (m : Memory) (w : Width) (a : Nat) : Word :=
  BitVec.ofInt 32 (signed (8 * widthBytes w) (bytesValue m a (widthBytes w)))

/-- SR as a 32-bit value (rules R24, R25). -/
def srWord (r : Sr) : Word :=
  BitVec.ofNat 32 (bit r.m * 512 + bit r.q * 256 + r.i.toNat * 16 + bit r.s * 2 + bit r.t)

/-- SR after a value is written to it (rule R25). -/
def srOf (w : Word) : Sr where
  m := w.toNat.testBit 9
  q := w.toNat.testBit 8
  i := BitVec.ofNat 4 (w.toNat / 16)
  s := w.toNat.testBit 1
  t := w.toNat.testBit 0

/-- FPSCR as a 32-bit value (rules R35, R36). -/
def fpscrWord (r : Fpscr) : Word :=
  BitVec.ofNat 32 (2 ^ 18 + bit r.cv * 2 ^ 16 + bit r.cz * 2 ^ 15 + bit r.ev * 2 ^ 11 + bit r.ez * 2 ^ 10 + bit r.fv * 2 ^ 6
    + bit r.fz * 2 ^ 5 + 1)

/-- FPSCR after a value is written to it (rule R36). -/
def fpscrOf (w : Word) : Fpscr where
  cv := w.toNat.testBit 16
  cz := w.toNat.testBit 15
  ev := w.toNat.testBit 11
  ez := w.toNat.testBit 10
  fv := w.toNat.testBit 6
  fz := w.toNat.testBit 5

/-! ## Next states -/

/-- The code is the instruction's, and the instruction takes `s` to `t`. -/
def Runs (code : Half) (i : Instr) (s t : State) : Prop := decodeWord code = some i ∧ exec i s = .next t

/-- The state with nothing changed but what every completed instruction changes (rules R9, R322 step 6): execution goes on at
the branch target out of a delay slot, at `pc + 2` elsewhere, and no slot and no interrupt inhibit is left. -/
def moved (s : State) : State :=
  { s with
    pc := match s.slot with
      | some target => target
      | none => s.pc + 2#32
    slot := none
    intInhibit := false }

/-- As `moved`, and `R[n]` holds `v`. -/
def wrote (s : State) (n : Reg) (v : Word) : State := { moved s with regs := s.regs.set n.val v }

/-- As `wrote`, and T holds `t`. -/
def wroteT (s : State) (n : Reg) (v : Word) (t : Bool) : State := { wrote s n v with sr := { s.sr with t := t } }

/-- As `moved`, and T holds `t`. -/
def setsT (s : State) (t : Bool) : State := { moved s with sr := { s.sr with t := t } }

/-- As `moved`, and `FR[n]` holds `v`. -/
def wroteFr (s : State) (n : FReg) (v : Word) : State := { moved s with frs := s.frs.set n.val v }

/-- The state after an interrupt-disabled instruction that otherwise leaves `t` (rule R361). -/
def inhibited (t : State) : State := { t with intInhibit := true }

/-- The state after a taken delayed branch to `target` (rules R322, R323): its slot instruction at `pc + 2` comes next and
nothing is accepted before it. -/
def delayed (s : State) (target : Word) : State :=
  { s with
    pc := s.pc + 2#32
    slot := some target
    intInhibit := true }

/-- The FPU runs and no FPU exception waits: FPU instructions execute normally (rules R523, R527). -/
def FpuReady (s : State) : Prop := s.fpuStopped = false ∧ s.fpuPending = none

/-- `PCval` (rules R141, R324). -/
def pcOperand (s : State) : Word :=
  match s.slot with
  | some target => target + 2#32
  | none => s.pc + 4#32

/-! ## Accesses

`State.busTurn` is what other bus masters do to memory before an access (rule R74, decision D16, log entry 25); what it does
is `Obligations.OtherMastersWriteBetweenAccesses`. -/

/-- The instruction loads from `ea` with this width whenever that access passes, and then leaves `after` of the loaded
value. -/
def LoadsInto (i : Instr) (w : Width) (ea : State → Word) (ready : State → Prop) (after : State → Word → State) : Prop :=
  ∀ s, ready s → Accessible s .read w (ea s) →
    exec i s = .next (after s.busTurn (loaded s.busTurn.mem w (ea s).toNat))

/-- The bytes of `v` stand at address `a`, big-endian (rule R61), and every other address reads as before. -/
def Stored (s t : State) (w : Width) (a : Word) (v : Nat) : Prop :=
  (∀ k < widthBytes w, (t.mem.read (a.toNat + k)).toNat = v / 256 ^ (widthBytes w - 1 - k) % 256)
    ∧ ∀ c, (c < a.toNat ∨ a.toNat + widthBytes w ≤ c) → t.mem.read c = s.mem.read c

/-- `t` is `after`, but that `v` is stored at `a` in the memory of `s` (and that the record of recent stores differs). -/
def StoredThen (s t : State) (w : Width) (a : Word) (v : Nat) (after : State) : Prop :=
  { t with mem := s.mem, recent := s.recent } = after ∧ Stored s t w a v

/-- The instruction stores `v` at `ea` with this width whenever that access passes, and apart from memory (and the record of
recent stores) then leaves `after`. -/
def StoresAt (i : Instr) (w : Width) (ea : State → Word) (ready : State → Prop) (v : State → Word)
    (after : State → State) : Prop :=
  ∀ s, ready s → Accessible s .write w (ea s) →
    ∃ t, exec i s = .next t ∧ StoredThen s.busTurn t w (ea s) (v s).toNat (after s.busTurn)

/-- The instruction reads the byte at `ea` and then stores `v` of it back, whenever both accesses pass; other bus masters may
write between the two. -/
def Modifies (i : Instr) (ea : State → Word) (v : Byte → Byte) : Prop :=
  ∀ s, Accessible s .read .byte (ea s) → Accessible s .write .byte (ea s) →
    ∃ t, exec i s = .next t
      ∧ StoredThen s.busTurn.busTurn t .byte (ea s) (v (s.busTurn.mem.read (ea s).toNat)).toNat (moved s.busTurn.busTurn)

/-- Nothing is asked of the state. -/
def always (_ : State) : Prop := True

/-! ## Exceptions -/

/-- The two words of a frame can be stored and the vector can be read (rule R530). -/
def FrameReady (s : State) (v : BitVec 8) : Prop :=
  Accessible s .write .long (s.reg 15 - 4#32) ∧ Accessible s .write .long (s.reg 15 - 8#32)
    ∧ Accessible s .read .long (s.vbr + BitVec.ofNat 32 (4 * v.toNat))

/-- `t` is the state after entering the exception of vector number `v` from `s` (rule R530): SR is stacked at R15-4 and then
`spc` at R15-8, PC is what memory then holds at VBR + 4*v, R15 drops by 8, SR is `sr`, and nothing else changes but what
other bus masters write before each of the three accesses. -/
def Entered (s t : State) (v : BitVec 8) (spc : Word) (sr : Sr) : Prop :=
  ∃ s1 s2,
    StoredThen s.busTurn s1 .long (s.reg 15 - 4#32) (srWord s.sr).toNat s.busTurn
    ∧ StoredThen s1.busTurn s2 .long (s.reg 15 - 8#32) spc.toNat s1.busTurn
    ∧ t.pc.toNat = bytesValue s2.busTurn.mem (s.vbr + BitVec.ofNat 32 (4 * v.toNat)).toNat 4
    ∧ t = { s2.busTurn with
              regs := s.regs.set 15 (s.reg 15 - 8#32), sr := sr, pc := t.pc, slot := none, intInhibit := false }

/-- The answer is `DoubleFault` after a frame was stored (rule R534): no register, flag or other state changes but memory and
what is about it, and where no other bus master writes, memory changes in the two words of the frame alone. -/
def DoubleFaulted (s : State) (spc : Word) (r : Result) : Prop :=
  ∃ t, r = .next t ∧ t.mode = .doubleFault
    ∧ { t with mode := s.mode, mem := s.mem, recent := s.recent, bus := s.bus } = s
    ∧ (s.bus = [] →
        bytesValue t.mem (s.reg 15 - 4#32).toNat 4 = (srWord s.sr).toNat
        ∧ bytesValue t.mem (s.reg 15 - 8#32).toNat 4 = spc.toNat
        ∧ ∀ c, (c < (s.reg 15 - 4#32).toNat ∨ (s.reg 15 - 4#32).toNat + 4 ≤ c) →
            (c < (s.reg 15 - 8#32).toNat ∨ (s.reg 15 - 8#32).toNat + 4 ≤ c) → t.mem.read c = s.mem.read c)

/-- The answer is the entry of the illegal instruction exception at the instruction at `pc` (rules R515, R517, R531): the slot
illegal vector and the branch target in a delay slot, the general illegal vector and `pc` elsewhere. -/
def TakesIllegal (s : State) (r : Result) : Prop :=
  match s.slot with
  | some target =>
    FrameReady s s.platform.vec.slotIllegal → ∃ t, r = .next t ∧ Entered s t s.platform.vec.slotIllegal target s.sr
  | none =>
    FrameReady s s.platform.vec.generalIllegal → ∃ t, r = .next t ∧ Entered s t s.platform.vec.generalIllegal s.pc s.sr

/-- The state in which a step begins (log entry 7): the platform has set its outputs and what other bus masters will write, or
with no input left holds its outputs, and no other master writes. -/
def absorbed (s : State) : State :=
  match s.inputs with
  | [] => { s with bus := [] }
  | p :: rest => { s with inputs := rest, irq := p.irq, fpuStopped := p.fpuStopped, bus := p.busWrites }

/-- The platform does not reset the CPU before the next step. -/
def NoReset (s : State) : Prop := ∀ p ∈ s.inputs.head?, p.reset = none

/-- The request can be accepted (rule R541): NMI, or a level above the mask. -/
def Eligible (s : State) (r : IrqRequest) : Prop := r.level = 16 ∨ (s.sr.i.toNat < r.level ∧ r.level ≤ 15)

/-- `r` goes before `q` (rules R540, R543, R545): its level is higher, or both are of level 15 and it alone is the user
break. -/
def Outranks (s : State) (r q : IrqRequest) : Prop :=
  q.level < r.level
    ∨ (r.level = 15 ∧ q.level = 15 ∧ r.vector = s.platform.vec.userBreak ∧ q.vector ≠ s.platform.vec.userBreak)

/-- A run of instructions goes on at `pc`: the CPU runs, no reset comes, and nothing is accepted before the instruction,
because a slot or an inhibit forbids it (rule R542) or nothing is there to accept. -/
def Continues (s : State) : Prop :=
  NoReset s ∧ s.mode = .running
    ∧ (s.slot ≠ none ∨ s.intInhibit = true ∨ (s.fpuPending ≠ some 0 ∧ ∀ r ∈ (absorbed s).irq, ¬ Eligible s r))

/-- The word or longword access an instruction makes first, its width and its address (rule R67); TRAPA's are those of its
exception entry. -/
def firstAccess (i : Instr) (s : State) : Option (Width × Word) :=
  match i with
  | .movWStore _ n => some (.word, s.reg n)
  | .movLStore _ n => some (.long, s.reg n)
  | .movWLoad m _ => some (.word, s.reg m)
  | .movLLoad m _ => some (.long, s.reg m)
  | .movWPreDec _ n => some (.word, s.reg n - 2#32)
  | .movLPreDec _ n => some (.long, s.reg n - 4#32)
  | .movWPostInc m _ => some (.word, s.reg m)
  | .movLPostInc m _ => some (.long, s.reg m)
  | .movWStoreDisp d n => some (.word, s.reg n + BitVec.ofNat 32 (d.toNat * 2))
  | .movLStoreDisp _ d n => some (.long, s.reg n + BitVec.ofNat 32 (d.toNat * 4))
  | .movWLoadDisp d m => some (.word, s.reg m + BitVec.ofNat 32 (d.toNat * 2))
  | .movLLoadDisp d m _ => some (.long, s.reg m + BitVec.ofNat 32 (d.toNat * 4))
  | .movWStoreR0 _ n => some (.word, s.reg n + s.reg 0)
  | .movLStoreR0 _ n => some (.long, s.reg n + s.reg 0)
  | .movWLoadR0 m _ => some (.word, s.reg m + s.reg 0)
  | .movLLoadR0 m _ => some (.long, s.reg m + s.reg 0)
  | .movWStoreGbr d => some (.word, s.gbr + BitVec.ofNat 32 (d.toNat * 2))
  | .movLStoreGbr d => some (.long, s.gbr + BitVec.ofNat 32 (d.toNat * 4))
  | .movWLoadGbr d => some (.word, s.gbr + BitVec.ofNat 32 (d.toNat * 2))
  | .movLLoadGbr d => some (.long, s.gbr + BitVec.ofNat 32 (d.toNat * 4))
  | .movWPc d _ => some (.word, pcOperand s + BitVec.ofNat 32 (d.toNat * 2))
  | .macL _ n => some (.long, s.reg n)
  | .macW _ n => some (.word, s.reg n)
  | .ldcLSr m | .ldcLGbr m | .ldcLVbr m | .ldsLMach m | .ldsLMacl m | .ldsLPr m | .ldsLFpscr m | .ldsLFpul m =>
    some (.long, s.reg m)
  | .stcLSr n | .stcLGbr n | .stcLVbr n | .stsLMach n | .stsLMacl n | .stsLPr n | .stsLFpscr n | .stsLFpul n =>
    some (.long, s.reg n - 4#32)
  | .rte => if s.slot = none then some (.long, s.reg 15) else none
  | .fmovLoad m _ | .fmovPostInc m _ => some (.long, s.reg m)
  | .fmovLoadR0 m _ => some (.long, s.reg m + s.reg 0)
  | .fmovStore _ n => some (.long, s.reg n)
  | .fmovPreDec _ n => some (.long, s.reg n - 4#32)
  | .fmovStoreR0 _ n => some (.long, s.reg n + s.reg 0)
  | _ => none

/-! ## Exceptions of a slot instruction -/

/-- `u` is the state in which an address error of the instruction's own accesses is taken (rules R72, R516, decision D8, log
entries 21 and 34): nothing is done but what comes before the access at fault. Where it is the first, that is nothing; where
it is the second, other bus masters had their turn before the first (log entry 25), MAC.L and MAC.W have moved the first
register on, and TAS.B has written T. -/
def FaultsFrom (i : Instr) (s u : State) : Prop :=
  u = { s with busLock := false }
    ∨ match i with
      | .macL _ n => u = { s.busTurn with regs := s.regs.set n.val (s.reg n + 4#32), busLock := false }
      | .macW _ n => u = { s.busTurn with regs := s.regs.set n.val (s.reg n + 2#32), busLock := false }
      | .andB _ | .orB _ | .xorB _ => u = { s.busTurn with busLock := false }
      | .tasB n =>
        u = { s.busTurn with
                sr := { s.sr with t := decide (s.busTurn.mem.read (s.reg n).toNat = 0x00#8) }, busLock := false }
      | _ => False

/-- `u` is `s` after none, one or both of the two stores of an entry that saves `spc` (rule R530 steps 1 and 2). -/
def EntryBegun (s u : State) (spc : Word) : Prop :=
  let s1 := s.busTurn.poke .long (s.reg 15 - 4#32) (srWord s.sr)
  u = s ∨ u = s1 ∨ u = s1.busTurn.poke .long (s.reg 15 - 8#32) spc

/-- From `u` the instruction in a delay slot with this branch target enters the exception of vector number `v`: slot illegal
from `s` itself (rules R517, R523), the address error that replaces it where its own entry faults (rule R534), or the address
error of the instruction's accesses (rule R516). -/
def SlotTrapsFrom (i : Instr) (s u : State) (v : BitVec 8) (target : Word) : Prop :=
  ((i.rewritesPc = true ∨ (i.usesFpu = true ∧ s.fpuStopped = true))
      ∧ ((v = s.platform.vec.slotIllegal ∧ u = s) ∨ (v = s.platform.vec.addressError ∧ EntryBegun s u target)))
    ∨ (v = s.platform.vec.addressError ∧ FaultsFrom i s u)

/-- Between the memories `m` and `m'` nothing changes but the two words of a frame below `sp`, which hold SR and the saved PC
(rule R530). -/
def FrameStacked (m m' : Memory) (sp : Word) (sr : Sr) (spc : Word) : Prop :=
  bytesValue m' (sp - 4#32).toNat 4 = (srWord sr).toNat
    ∧ bytesValue m' (sp - 8#32).toNat 4 = spc.toNat
    ∧ ∀ c, (c < (sp - 4#32).toNat ∨ (sp - 4#32).toNat + 4 ≤ c) →
        (c < (sp - 8#32).toNat ∨ (sp - 8#32).toNat + 4 ≤ c) → m'.read c = m.read c

/-! ## Who writes what -/

/-- The instructions that write the whole of SR (rule R25). -/
def loadsSr : Instr → Bool
  | .ldcSr _ | .ldcLSr _ | .rte => true
  | _ => false

/-- The instructions that write T (rule R26). -/
def writesT : Instr → Bool
  | .addc _ _ | .addv _ _ | .cmpEqImm _ | .cmpEq _ _ | .cmpHs _ _ | .cmpGe _ _ | .cmpHi _ _ | .cmpGt _ _ | .cmpPl _
  | .cmpPz _ | .cmpStr _ _ | .div1 _ _ | .div0s _ _ | .div0u | .dt _ | .negc _ _ | .subc _ _ | .subv _ _ | .tasB _
  | .tstReg _ _ | .tstImm _ | .tstB _ | .rotl _ | .rotr _ | .rotcl _ | .rotcr _ | .shal _ | .shar _ | .shll _ | .shlr _
  | .clrt | .sett | .fcmpEq _ _ | .fcmpGt _ _ => true
  | i => loadsSr i

/-- The instructions that write Q or M (rule R26). -/
def writesQM : Instr → Bool
  | .div0u | .div0s _ _ | .div1 _ _ => true
  | i => loadsSr i

/-- The instructions that write MACH or MACL (rule R30). -/
def writesMac : Instr → Bool
  | .mulL _ _ | .mulsW _ _ | .muluW _ _ | .dmulsL _ _ | .dmuluL _ _ | .macL _ _ | .macW _ _ | .clrmac | .ldsMach _
  | .ldsMacl _ | .ldsLMach _ | .ldsLMacl _ => true
  | _ => false

/-- The instructions that write PR (rule R32). -/
def writesPr : Instr → Bool
  | .bsr _ | .bsrf _ | .jsr _ | .ldsPr _ | .ldsLPr _ => true
  | _ => false

/-- The instructions that write GBR (rule R28). -/
def writesGbr : Instr → Bool
  | .ldcGbr _ | .ldcLGbr _ => true
  | _ => false

/-- The instructions that write VBR (rule R29). -/
def writesVbr : Instr → Bool
  | .ldcVbr _ | .ldcLVbr _ => true
  | _ => false

/-! ## Floating point -/

/-- The value of a pattern that stands for a finite number (rule R422): zeros and denormalized numbers are 0. -/
def real (x : Word) : ℚ :=
  let e : Nat := x.toNat / 2 ^ 23 % 256
  let f : Nat := x.toNat % 2 ^ 23
  if e = 0 then 0
  else (if 2 ^ 31 ≤ x.toNat then -1 else 1) * (1 + (f : ℚ) / 2 ^ 23) * (2 : ℚ) ^ ((e : Int) - 127)

/-- The pattern stands for a zero: a zero or a denormalized number (rule R422). -/
def isZero (x : Word) : Prop := x.toNat / 2 ^ 23 % 256 = 0

/-- The pattern is an infinity (rule R422). -/
def isInf (x : Word) : Prop := x.toNat % 2 ^ 31 = 0x7F800000

/-- The pattern is a signaling NaN: bit 22 is set (rule R422). -/
def isSNaN (x : Word) : Prop := x.toNat % 2 ^ 31 > 0x7F800000 ∧ x.toNat / 2 ^ 22 % 2 = 1

/-- The pattern is a quiet NaN: bit 22 is clear (rule R422). -/
def isQNaN (x : Word) : Prop := x.toNat % 2 ^ 31 > 0x7F800000 ∧ x.toNat / 2 ^ 22 % 2 = 0

/-- The pattern is a normalized number (rule R422). -/
def isNorm (x : Word) : Prop := x.toNat / 2 ^ 23 % 256 ≠ 0 ∧ x.toNat / 2 ^ 23 % 256 ≠ 255

/-- The pattern is negative. -/
def negative (x : Word) : Bool := decide (2 ^ 31 ≤ x.toNat)

/-- The pattern stands for a finite number. -/
def isFinite (x : Word) : Prop := isZero x ∨ isNorm x

/-- `n` and `m` are equal as extended reals (rule R432). -/
def fpSame (n m : Word) : Prop :=
  (isFinite n ∧ isFinite m ∧ real n = real m) ∨ (isInf n ∧ isInf m ∧ negative n = negative m)

/-- `n` is greater than `m` as extended reals (rule R432). -/
def fpGreater (n m : Word) : Prop :=
  (isFinite n ∧ isFinite m ∧ real m < real n) ∨ (isInf n ∧ negative n = false ∧ ¬ (isInf m ∧ negative m = false))
    ∨ (isInf m ∧ negative m = true ∧ ¬ (isInf n ∧ negative n = true))

/-- `w` is what rule R426 makes of the exact result `x`, a number of sign `neg`: the zero of the sign below 2^-126, the
largest finite number of the sign from 2^128 on, and between them the number of 24 significant bits next to `x` toward
zero. -/
def Truncated (x : ℚ) (neg : Bool) (w : Word) : Prop :=
  (|x| < (2 : ℚ) ^ (-126 : Int) → w = if neg then 0x80000000#32 else 0x00000000#32)
    ∧ ((2 : ℚ) ^ (128 : Int) ≤ |x| → w = if neg then 0xFF7FFFFF#32 else 0x7F7FFFFF#32)
    ∧ ((2 : ℚ) ^ (-126 : Int) ≤ |x| → |x| < (2 : ℚ) ^ (128 : Int) →
        isNorm w ∧ negative w = neg ∧ |real w| ≤ |x|
          ∧ |x| < |real w| + (2 : ℚ) ^ (((w.toNat / 2 ^ 23 % 256 : Nat) : Int) - 150))

/-- The zero of a sign (rule R424). -/
def zeroOf (neg : Bool) : Word := if neg then 0x80000000#32 else 0x00000000#32

/-- The infinity of a sign (rule R424). -/
def infOf (neg : Bool) : Word := if neg then 0xFF800000#32 else 0x7F800000#32

/-- `r` treats NaN operands as rule R425 says, signaling ones first, and is as `other` says where there are none. -/
def NaNsFirst (r : FpResult) (a b : Word) (other : Prop) : Prop :=
  (isSNaN a ∨ isSNaN b → r = .invalid)
    ∧ (¬ (isSNaN a ∨ isSNaN b) → isQNaN a ∨ isQNaN b → r = .value 0x7FBFFFFF#32)
    ∧ (¬ (isSNaN a ∨ isSNaN b) → ¬ (isQNaN a ∨ isQNaN b) → other)

/-- `r` is the sum of `a` and `b` (rules R425, R426, R429); an exact zero sum of opposite numbers is +0 (log entry 22). -/
def IsSum (r : FpResult) (a b : Word) : Prop :=
  NaNsFirst r a b
    ((isInf a → isInf b → negative a ≠ negative b → r = .invalid)
      ∧ (isInf a → isInf b → negative a = negative b → r = .value a)
      ∧ (isInf a → isFinite b → r = .value a)
      ∧ (isFinite a → isInf b → r = .value b)
      ∧ (isZero a → isZero b → r = .value (zeroOf (negative a && negative b)))
      ∧ (isZero a → isNorm b → r = .value b)
      ∧ (isNorm a → isZero b → r = .value a)
      ∧ (isNorm a → isNorm b → real a + real b = 0 → r = .value 0x00000000#32)
      ∧ (isNorm a → isNorm b → real a + real b ≠ 0 →
          ∃ w, r = .value w ∧ Truncated (real a + real b) (decide (real a + real b < 0)) w))

/-- `r` is the product of `a` and `b` (rules R425, R426, R446). -/
def IsProduct (r : FpResult) (a b : Word) : Prop :=
  NaNsFirst r a b
    ((isInf a ∧ isZero b ∨ isZero a ∧ isInf b → r = .invalid)
      ∧ (isInf a → isInf b ∨ isNorm b → r = .value (infOf (negative a ^^ negative b)))
      ∧ (isNorm a → isInf b → r = .value (infOf (negative a ^^ negative b)))
      ∧ (isZero a → isFinite b → r = .value (zeroOf (negative a ^^ negative b)))
      ∧ (isNorm a → isZero b → r = .value (zeroOf (negative a ^^ negative b)))
      ∧ (isNorm a → isNorm b → ∃ w, r = .value w ∧ Truncated (real a * real b) (negative a ^^ negative b) w))

/-- `r` is the quotient `a / b` (rules R425, R426, R433). -/
def IsQuotient (r : FpResult) (a b : Word) : Prop :=
  NaNsFirst r a b
    ((isInf a ∧ isInf b ∨ isZero a ∧ isZero b → r = .invalid)
      ∧ (isInf a → isFinite b → r = .value (infOf (negative a ^^ negative b)))
      ∧ (isFinite a → isInf b → r = .value (zeroOf (negative a ^^ negative b)))
      ∧ (isZero a → isNorm b → r = .value (zeroOf (negative a ^^ negative b)))
      ∧ (isNorm a → isZero b → r = .divByZero (negative a ^^ negative b))
      ∧ (isNorm a → isNorm b → ∃ w, r = .value w ∧ Truncated (real a / real b) (negative a ^^ negative b) w))

/-- The integer a number gives when its fraction is dropped (rule R450). -/
def dropFraction (x : ℚ) : Int := if 0 ≤ x then ⌊x⌋ else ⌈x⌉

/-- The integer conversion of `x` (rule R450): the value for FPUL, and whether it is an invalid conversion. -/
def IsTruncation (r : Word × Bool) (x : Word) : Prop :=
  (isSNaN x ∨ isQNaN x → r = (0x80000000#32, true))
    ∧ (isInf x → r = (if negative x then 0x80000000#32 else 0x7FFFFFFF#32, true))
    ∧ (isFinite x → real x < -2 ^ 31 → r = (0x80000000#32, true))
    ∧ (isFinite x → (2 : ℚ) ^ 31 ≤ real x → r = (0x7FFFFFFF#32, true))
    ∧ (isFinite x → -2 ^ 31 ≤ real x → real x < 2 ^ 31 → r = (BitVec.ofInt 32 (dropFraction (real x)), false))

/-- The value an operation writes when no exception is raised (rules R423, R424). -/
def untrapped : FpResult → Word
  | .value w => w
  | .invalid => 0x7FBFFFFF#32
  | .divByZero neg => infOf neg

/-- FPSCR after an operation: both causes cleared, then the cause and the flag of what happened set (rule R423). -/
def settled (r : Fpscr) (x : FpResult) : Fpscr :=
  match x with
  | .value _ => { r with cv := false, cz := false }
  | .invalid => { r with cv := true, cz := false, fv := true }
  | .divByZero _ => { r with cv := false, cz := true, fz := true }

/-- The exception of an operation is enabled (rule R427). -/
def trapped (r : Fpscr) : FpResult → Bool
  | .value _ => false
  | .invalid => r.ev
  | .divByZero _ => r.ez

/-- The FPU exception is raised (rule R427): FPSCR records it, the event is pending for at most `FpuExcSkid` instructions
(rule R527; that the count is free up to that bound is decision D11, log entry 10), and nothing else changes. -/
def RaisesFpu (i : Instr) (s : State) (fpscr : Fpscr) : Prop :=
  ∃ k ≤ s.platform.fpuExcSkid,
    exec i s = .next { moved s with fpscr := fpscr, fpuPending := some k, free := s.free + 1 }

/-- The instruction writes the result `x s` of an arithmetic operation to `FR[n]` (rules R423, R427). -/
def Computes (i : Instr) (n : FReg) (x : State → FpResult) : Prop :=
  ∀ s, FpuReady s →
    (trapped s.fpscr (x s) = false →
      exec i s = .next { wroteFr s n (untrapped (x s)) with fpscr := settled s.fpscr (x s) })
    ∧ (trapped s.fpscr (x s) = true → RaisesFpu i s (settled s.fpscr (x s)))

end Sys2Proof.Says

open Sys2Proof.Says

/-- Decode and encode agree on every instruction and every operand value; every instruction is exactly two bytes (rule R90). -/
def Obligations.DecodeEncodeRoundTrip : Prop :=
  ∀ (i : Instr) (rest : List Byte), decode (encode i ++ rest) = .ok (i, rest)

/-- Every bit of an assigned code is fixed or an operand (rule R94), so the code can be written back. -/
def Obligations.EncodeDecodeRoundTrip : Prop :=
  ∀ (w : Half) (i : Instr), decodeWord w = some i → encodeWord i = w

/-- The encoding pattern of every data transfer, arithmetic, logic and shift instruction, field by field (rules R91 to R93). -/
def Obligations.AssignedIntegerCodes : Prop :=
  (∀ (i : BitVec 8) (n : Reg), decodeWord (nbCode 0xE n i) = some (.movImm i n))
  ∧ (∀ (d : BitVec 8) (n : Reg), decodeWord (nbCode 0x9 n d) = some (.movWPc d n))
  ∧ (∀ (d : BitVec 8) (n : Reg), decodeWord (nbCode 0xD n d) = some (.movLPc d n))
  ∧ (∀ (m : Reg) (n : Reg), decodeWord (nmCode 0x6 n m 0x3) = some (.mov m n))
  ∧ (∀ (m : Reg) (n : Reg), decodeWord (nmCode 0x2 n m 0x0) = some (.movBStore m n))
  ∧ (∀ (m : Reg) (n : Reg), decodeWord (nmCode 0x2 n m 0x1) = some (.movWStore m n))
  ∧ (∀ (m : Reg) (n : Reg), decodeWord (nmCode 0x2 n m 0x2) = some (.movLStore m n))
  ∧ (∀ (m : Reg) (n : Reg), decodeWord (nmCode 0x6 n m 0x0) = some (.movBLoad m n))
  ∧ (∀ (m : Reg) (n : Reg), decodeWord (nmCode 0x6 n m 0x1) = some (.movWLoad m n))
  ∧ (∀ (m : Reg) (n : Reg), decodeWord (nmCode 0x6 n m 0x2) = some (.movLLoad m n))
  ∧ (∀ (m : Reg) (n : Reg), decodeWord (nmCode 0x2 n m 0x4) = some (.movBPreDec m n))
  ∧ (∀ (m : Reg) (n : Reg), decodeWord (nmCode 0x2 n m 0x5) = some (.movWPreDec m n))
  ∧ (∀ (m : Reg) (n : Reg), decodeWord (nmCode 0x2 n m 0x6) = some (.movLPreDec m n))
  ∧ (∀ (m : Reg) (n : Reg), decodeWord (nmCode 0x6 n m 0x4) = some (.movBPostInc m n))
  ∧ (∀ (m : Reg) (n : Reg), decodeWord (nmCode 0x6 n m 0x5) = some (.movWPostInc m n))
  ∧ (∀ (m : Reg) (n : Reg), decodeWord (nmCode 0x6 n m 0x6) = some (.movLPostInc m n))
  ∧ (∀ (d : BitVec 4) (n : Reg), decodeWord (dispCode 0x80 n d) = some (.movBStoreDisp d n))
  ∧ (∀ (d : BitVec 4) (n : Reg), decodeWord (dispCode 0x81 n d) = some (.movWStoreDisp d n))
  ∧ (∀ (m : Reg) (d : BitVec 4) (n : Reg), decodeWord (nmdCode 0x1 n m d) = some (.movLStoreDisp m d n))
  ∧ (∀ (d : BitVec 4) (m : Reg), decodeWord (dispCode 0x84 m d) = some (.movBLoadDisp d m))
  ∧ (∀ (d : BitVec 4) (m : Reg), decodeWord (dispCode 0x85 m d) = some (.movWLoadDisp d m))
  ∧ (∀ (d : BitVec 4) (m : Reg) (n : Reg), decodeWord (nmdCode 0x5 n m d) = some (.movLLoadDisp d m n))
  ∧ (∀ (m : Reg) (n : Reg), decodeWord (nmCode 0x0 n m 0x4) = some (.movBStoreR0 m n))
  ∧ (∀ (m : Reg) (n : Reg), decodeWord (nmCode 0x0 n m 0x5) = some (.movWStoreR0 m n))
  ∧ (∀ (m : Reg) (n : Reg), decodeWord (nmCode 0x0 n m 0x6) = some (.movLStoreR0 m n))
  ∧ (∀ (m : Reg) (n : Reg), decodeWord (nmCode 0x0 n m 0xC) = some (.movBLoadR0 m n))
  ∧ (∀ (m : Reg) (n : Reg), decodeWord (nmCode 0x0 n m 0xD) = some (.movWLoadR0 m n))
  ∧ (∀ (m : Reg) (n : Reg), decodeWord (nmCode 0x0 n m 0xE) = some (.movLLoadR0 m n))
  ∧ (∀ (d : BitVec 8), decodeWord (byteCode 0xC0 d) = some (.movBStoreGbr d))
  ∧ (∀ (d : BitVec 8), decodeWord (byteCode 0xC1 d) = some (.movWStoreGbr d))
  ∧ (∀ (d : BitVec 8), decodeWord (byteCode 0xC2 d) = some (.movLStoreGbr d))
  ∧ (∀ (d : BitVec 8), decodeWord (byteCode 0xC4 d) = some (.movBLoadGbr d))
  ∧ (∀ (d : BitVec 8), decodeWord (byteCode 0xC5 d) = some (.movWLoadGbr d))
  ∧ (∀ (d : BitVec 8), decodeWord (byteCode 0xC6 d) = some (.movLLoadGbr d))
  ∧ (∀ (d : BitVec 8), decodeWord (byteCode 0xC7 d) = some (.mova d))
  ∧ (∀ (n : Reg), decodeWord (nCode 0x0 n 0x29) = some (.movt n))
  ∧ (∀ (m : Reg) (n : Reg), decodeWord (nmCode 0x6 n m 0x8) = some (.swapB m n))
  ∧ (∀ (m : Reg) (n : Reg), decodeWord (nmCode 0x6 n m 0x9) = some (.swapW m n))
  ∧ (∀ (m : Reg) (n : Reg), decodeWord (nmCode 0x2 n m 0xD) = some (.xtrct m n))
  ∧ (∀ (m : Reg) (n : Reg), decodeWord (nmCode 0x3 n m 0xC) = some (.add m n))
  ∧ (∀ (i : BitVec 8) (n : Reg), decodeWord (nbCode 0x7 n i) = some (.addImm i n))
  ∧ (∀ (m : Reg) (n : Reg), decodeWord (nmCode 0x3 n m 0xE) = some (.addc m n))
  ∧ (∀ (m : Reg) (n : Reg), decodeWord (nmCode 0x3 n m 0xF) = some (.addv m n))
  ∧ (∀ (i : BitVec 8), decodeWord (byteCode 0x88 i) = some (.cmpEqImm i))
  ∧ (∀ (m : Reg) (n : Reg), decodeWord (nmCode 0x3 n m 0x0) = some (.cmpEq m n))
  ∧ (∀ (m : Reg) (n : Reg), decodeWord (nmCode 0x3 n m 0x2) = some (.cmpHs m n))
  ∧ (∀ (m : Reg) (n : Reg), decodeWord (nmCode 0x3 n m 0x3) = some (.cmpGe m n))
  ∧ (∀ (m : Reg) (n : Reg), decodeWord (nmCode 0x3 n m 0x6) = some (.cmpHi m n))
  ∧ (∀ (m : Reg) (n : Reg), decodeWord (nmCode 0x3 n m 0x7) = some (.cmpGt m n))
  ∧ (∀ (n : Reg), decodeWord (nCode 0x4 n 0x15) = some (.cmpPl n))
  ∧ (∀ (n : Reg), decodeWord (nCode 0x4 n 0x11) = some (.cmpPz n))
  ∧ (∀ (m : Reg) (n : Reg), decodeWord (nmCode 0x2 n m 0xC) = some (.cmpStr m n))
  ∧ (∀ (m : Reg) (n : Reg), decodeWord (nmCode 0x3 n m 0x4) = some (.div1 m n))
  ∧ (∀ (m : Reg) (n : Reg), decodeWord (nmCode 0x2 n m 0x7) = some (.div0s m n))
  ∧ (decodeWord 0x0019#16 = some .div0u)
  ∧ (∀ (m : Reg) (n : Reg), decodeWord (nmCode 0x3 n m 0xD) = some (.dmulsL m n))
  ∧ (∀ (m : Reg) (n : Reg), decodeWord (nmCode 0x3 n m 0x5) = some (.dmuluL m n))
  ∧ (∀ (n : Reg), decodeWord (nCode 0x4 n 0x10) = some (.dt n))
  ∧ (∀ (m : Reg) (n : Reg), decodeWord (nmCode 0x6 n m 0xE) = some (.extsB m n))
  ∧ (∀ (m : Reg) (n : Reg), decodeWord (nmCode 0x6 n m 0xF) = some (.extsW m n))
  ∧ (∀ (m : Reg) (n : Reg), decodeWord (nmCode 0x6 n m 0xC) = some (.extuB m n))
  ∧ (∀ (m : Reg) (n : Reg), decodeWord (nmCode 0x6 n m 0xD) = some (.extuW m n))
  ∧ (∀ (m : Reg) (n : Reg), decodeWord (nmCode 0x0 n m 0xF) = some (.macL m n))
  ∧ (∀ (m : Reg) (n : Reg), decodeWord (nmCode 0x4 n m 0xF) = some (.macW m n))
  ∧ (∀ (m : Reg) (n : Reg), decodeWord (nmCode 0x0 n m 0x7) = some (.mulL m n))
  ∧ (∀ (m : Reg) (n : Reg), decodeWord (nmCode 0x2 n m 0xF) = some (.mulsW m n))
  ∧ (∀ (m : Reg) (n : Reg), decodeWord (nmCode 0x2 n m 0xE) = some (.muluW m n))
  ∧ (∀ (m : Reg) (n : Reg), decodeWord (nmCode 0x6 n m 0xB) = some (.neg m n))
  ∧ (∀ (m : Reg) (n : Reg), decodeWord (nmCode 0x6 n m 0xA) = some (.negc m n))
  ∧ (∀ (m : Reg) (n : Reg), decodeWord (nmCode 0x3 n m 0x8) = some (.sub m n))
  ∧ (∀ (m : Reg) (n : Reg), decodeWord (nmCode 0x3 n m 0xA) = some (.subc m n))
  ∧ (∀ (m : Reg) (n : Reg), decodeWord (nmCode 0x3 n m 0xB) = some (.subv m n))
  ∧ (∀ (m : Reg) (n : Reg), decodeWord (nmCode 0x2 n m 0x9) = some (.andReg m n))
  ∧ (∀ (i : BitVec 8), decodeWord (byteCode 0xC9 i) = some (.andImm i))
  ∧ (∀ (i : BitVec 8), decodeWord (byteCode 0xCD i) = some (.andB i))
  ∧ (∀ (m : Reg) (n : Reg), decodeWord (nmCode 0x6 n m 0x7) = some (.notReg m n))
  ∧ (∀ (m : Reg) (n : Reg), decodeWord (nmCode 0x2 n m 0xB) = some (.orReg m n))
  ∧ (∀ (i : BitVec 8), decodeWord (byteCode 0xCB i) = some (.orImm i))
  ∧ (∀ (i : BitVec 8), decodeWord (byteCode 0xCF i) = some (.orB i))
  ∧ (∀ (n : Reg), decodeWord (nCode 0x4 n 0x1B) = some (.tasB n))
  ∧ (∀ (m : Reg) (n : Reg), decodeWord (nmCode 0x2 n m 0x8) = some (.tstReg m n))
  ∧ (∀ (i : BitVec 8), decodeWord (byteCode 0xC8 i) = some (.tstImm i))
  ∧ (∀ (i : BitVec 8), decodeWord (byteCode 0xCC i) = some (.tstB i))
  ∧ (∀ (m : Reg) (n : Reg), decodeWord (nmCode 0x2 n m 0xA) = some (.xorReg m n))
  ∧ (∀ (i : BitVec 8), decodeWord (byteCode 0xCA i) = some (.xorImm i))
  ∧ (∀ (i : BitVec 8), decodeWord (byteCode 0xCE i) = some (.xorB i))
  ∧ (∀ (n : Reg), decodeWord (nCode 0x4 n 0x04) = some (.rotl n))
  ∧ (∀ (n : Reg), decodeWord (nCode 0x4 n 0x05) = some (.rotr n))
  ∧ (∀ (n : Reg), decodeWord (nCode 0x4 n 0x24) = some (.rotcl n))
  ∧ (∀ (n : Reg), decodeWord (nCode 0x4 n 0x25) = some (.rotcr n))
  ∧ (∀ (n : Reg), decodeWord (nCode 0x4 n 0x20) = some (.shal n))
  ∧ (∀ (n : Reg), decodeWord (nCode 0x4 n 0x21) = some (.shar n))
  ∧ (∀ (n : Reg), decodeWord (nCode 0x4 n 0x00) = some (.shll n))
  ∧ (∀ (n : Reg), decodeWord (nCode 0x4 n 0x01) = some (.shlr n))
  ∧ (∀ (n : Reg), decodeWord (nCode 0x4 n 0x08) = some (.shll2 n))
  ∧ (∀ (n : Reg), decodeWord (nCode 0x4 n 0x09) = some (.shlr2 n))
  ∧ (∀ (n : Reg), decodeWord (nCode 0x4 n 0x18) = some (.shll8 n))
  ∧ (∀ (n : Reg), decodeWord (nCode 0x4 n 0x19) = some (.shlr8 n))
  ∧ (∀ (n : Reg), decodeWord (nCode 0x4 n 0x28) = some (.shll16 n))
  ∧ (∀ (n : Reg), decodeWord (nCode 0x4 n 0x29) = some (.shlr16 n))

/-- The encoding pattern of every branch, system control and floating-point instruction, field by field (rules R91 to R93). -/
def Obligations.AssignedControlCodes : Prop :=
  (∀ (d : BitVec 8), decodeWord (byteCode 0x8B d) = some (.bf d))
  ∧ (∀ (d : BitVec 8), decodeWord (byteCode 0x8F d) = some (.bfS d))
  ∧ (∀ (d : BitVec 8), decodeWord (byteCode 0x89 d) = some (.bt d))
  ∧ (∀ (d : BitVec 8), decodeWord (byteCode 0x8D d) = some (.btS d))
  ∧ (∀ (d : BitVec 12), decodeWord (d12Code 0xA d) = some (.bra d))
  ∧ (∀ (m : Reg), decodeWord (nCode 0x0 m 0x23) = some (.braf m))
  ∧ (∀ (d : BitVec 12), decodeWord (d12Code 0xB d) = some (.bsr d))
  ∧ (∀ (m : Reg), decodeWord (nCode 0x0 m 0x03) = some (.bsrf m))
  ∧ (∀ (m : Reg), decodeWord (nCode 0x4 m 0x2B) = some (.jmp m))
  ∧ (∀ (m : Reg), decodeWord (nCode 0x4 m 0x0B) = some (.jsr m))
  ∧ (decodeWord 0x000B#16 = some .rts)
  ∧ (decodeWord 0x0008#16 = some .clrt)
  ∧ (decodeWord 0x0028#16 = some .clrmac)
  ∧ (∀ (m : Reg), decodeWord (nCode 0x4 m 0x0E) = some (.ldcSr m))
  ∧ (∀ (m : Reg), decodeWord (nCode 0x4 m 0x1E) = some (.ldcGbr m))
  ∧ (∀ (m : Reg), decodeWord (nCode 0x4 m 0x2E) = some (.ldcVbr m))
  ∧ (∀ (m : Reg), decodeWord (nCode 0x4 m 0x07) = some (.ldcLSr m))
  ∧ (∀ (m : Reg), decodeWord (nCode 0x4 m 0x17) = some (.ldcLGbr m))
  ∧ (∀ (m : Reg), decodeWord (nCode 0x4 m 0x27) = some (.ldcLVbr m))
  ∧ (∀ (m : Reg), decodeWord (nCode 0x4 m 0x0A) = some (.ldsMach m))
  ∧ (∀ (m : Reg), decodeWord (nCode 0x4 m 0x1A) = some (.ldsMacl m))
  ∧ (∀ (m : Reg), decodeWord (nCode 0x4 m 0x2A) = some (.ldsPr m))
  ∧ (∀ (m : Reg), decodeWord (nCode 0x4 m 0x06) = some (.ldsLMach m))
  ∧ (∀ (m : Reg), decodeWord (nCode 0x4 m 0x16) = some (.ldsLMacl m))
  ∧ (∀ (m : Reg), decodeWord (nCode 0x4 m 0x26) = some (.ldsLPr m))
  ∧ (decodeWord 0x0009#16 = some .nop)
  ∧ (decodeWord 0x002B#16 = some .rte)
  ∧ (decodeWord 0x0018#16 = some .sett)
  ∧ (decodeWord 0x001B#16 = some .sleep)
  ∧ (∀ (n : Reg), decodeWord (nCode 0x0 n 0x02) = some (.stcSr n))
  ∧ (∀ (n : Reg), decodeWord (nCode 0x0 n 0x12) = some (.stcGbr n))
  ∧ (∀ (n : Reg), decodeWord (nCode 0x0 n 0x22) = some (.stcVbr n))
  ∧ (∀ (n : Reg), decodeWord (nCode 0x4 n 0x03) = some (.stcLSr n))
  ∧ (∀ (n : Reg), decodeWord (nCode 0x4 n 0x13) = some (.stcLGbr n))
  ∧ (∀ (n : Reg), decodeWord (nCode 0x4 n 0x23) = some (.stcLVbr n))
  ∧ (∀ (n : Reg), decodeWord (nCode 0x0 n 0x0A) = some (.stsMach n))
  ∧ (∀ (n : Reg), decodeWord (nCode 0x0 n 0x1A) = some (.stsMacl n))
  ∧ (∀ (n : Reg), decodeWord (nCode 0x0 n 0x2A) = some (.stsPr n))
  ∧ (∀ (n : Reg), decodeWord (nCode 0x4 n 0x02) = some (.stsLMach n))
  ∧ (∀ (n : Reg), decodeWord (nCode 0x4 n 0x12) = some (.stsLMacl n))
  ∧ (∀ (n : Reg), decodeWord (nCode 0x4 n 0x22) = some (.stsLPr n))
  ∧ (∀ (i : BitVec 8), decodeWord (byteCode 0xC3 i) = some (.trapa i))
  ∧ (∀ (n : FReg), decodeWord (nCode 0xF n 0x5D) = some (.fabs n))
  ∧ (∀ (m : FReg) (n : FReg), decodeWord (nmCode 0xF n m 0x0) = some (.fadd m n))
  ∧ (∀ (m : FReg) (n : FReg), decodeWord (nmCode 0xF n m 0x4) = some (.fcmpEq m n))
  ∧ (∀ (m : FReg) (n : FReg), decodeWord (nmCode 0xF n m 0x5) = some (.fcmpGt m n))
  ∧ (∀ (m : FReg) (n : FReg), decodeWord (nmCode 0xF n m 0x3) = some (.fdiv m n))
  ∧ (∀ (n : FReg), decodeWord (nCode 0xF n 0x8D) = some (.fldi0 n))
  ∧ (∀ (n : FReg), decodeWord (nCode 0xF n 0x9D) = some (.fldi1 n))
  ∧ (∀ (m : FReg), decodeWord (nCode 0xF m 0x1D) = some (.flds m))
  ∧ (∀ (n : FReg), decodeWord (nCode 0xF n 0x2D) = some (.float n))
  ∧ (∀ (m : FReg) (n : FReg), decodeWord (nmCode 0xF n m 0xE) = some (.fmac m n))
  ∧ (∀ (m : FReg) (n : FReg), decodeWord (nmCode 0xF n m 0xC) = some (.fmov m n))
  ∧ (∀ (m : Reg) (n : FReg), decodeWord (nmCode 0xF n m 0x6) = some (.fmovLoadR0 m n))
  ∧ (∀ (m : Reg) (n : FReg), decodeWord (nmCode 0xF n m 0x9) = some (.fmovPostInc m n))
  ∧ (∀ (m : Reg) (n : FReg), decodeWord (nmCode 0xF n m 0x8) = some (.fmovLoad m n))
  ∧ (∀ (m : FReg) (n : Reg), decodeWord (nmCode 0xF n m 0x7) = some (.fmovStoreR0 m n))
  ∧ (∀ (m : FReg) (n : Reg), decodeWord (nmCode 0xF n m 0xB) = some (.fmovPreDec m n))
  ∧ (∀ (m : FReg) (n : Reg), decodeWord (nmCode 0xF n m 0xA) = some (.fmovStore m n))
  ∧ (∀ (m : FReg) (n : FReg), decodeWord (nmCode 0xF n m 0x2) = some (.fmul m n))
  ∧ (∀ (n : FReg), decodeWord (nCode 0xF n 0x4D) = some (.fneg n))
  ∧ (∀ (n : FReg), decodeWord (nCode 0xF n 0x0D) = some (.fsts n))
  ∧ (∀ (m : FReg) (n : FReg), decodeWord (nmCode 0xF n m 0x1) = some (.fsub m n))
  ∧ (∀ (m : FReg), decodeWord (nCode 0xF m 0x3D) = some (.ftrc m))
  ∧ (∀ (m : Reg), decodeWord (nCode 0x4 m 0x6A) = some (.ldsFpscr m))
  ∧ (∀ (m : Reg), decodeWord (nCode 0x4 m 0x5A) = some (.ldsFpul m))
  ∧ (∀ (m : Reg), decodeWord (nCode 0x4 m 0x66) = some (.ldsLFpscr m))
  ∧ (∀ (m : Reg), decodeWord (nCode 0x4 m 0x56) = some (.ldsLFpul m))
  ∧ (∀ (n : Reg), decodeWord (nCode 0x0 n 0x6A) = some (.stsFpscr n))
  ∧ (∀ (n : Reg), decodeWord (nCode 0x0 n 0x5A) = some (.stsFpul n))
  ∧ (∀ (n : Reg), decodeWord (nCode 0x4 n 0x62) = some (.stsLFpscr n))
  ∧ (∀ (n : Reg), decodeWord (nCode 0x4 n 0x52) = some (.stsLFpul n))

/-- The unassigned codes of rule R116 are exactly the codes that no instruction owns. -/
def Obligations.UnassignedCodesRejected : Prop :=
  ∀ w : Half, (decodeWord w = none ↔ Unassigned w)
    ∧ (Unassigned w → ∀ rest, decode (w.extractLsb' 8 8 :: w.extractLsb' 0 8 :: rest) = .error (.unassignedCode w))

/-- The 31 rows of the table of worked encodings (rule R125). -/
def Obligations.WorkedEncodings : Prop :=
  (decodeWord 0x0009#16 = some (.nop))
  ∧ (decodeWord 0xE012#16 = some (.movImm 0x12 0))
  ∧ (decodeWord 0xE3FF#16 = some (.movImm 0xFF 3))
  ∧ (decodeWord 0x301C#16 = some (.add 1 0))
  ∧ (decodeWord 0x70FF#16 = some (.addImm 0xFF 0))
  ∧ (decodeWord 0x8800#16 = some (.cmpEqImm 0))
  ∧ (decodeWord 0x3013#16 = some (.cmpGe 1 0))
  ∧ (decodeWord 0x5102#16 = some (.movLLoadDisp 2 0 1))
  ∧ (decodeWord 0x110F#16 = some (.movLStoreDisp 0 15 1))
  ∧ (decodeWord 0x8023#16 = some (.movBStoreDisp 3 2))
  ∧ (decodeWord 0x8554#16 = some (.movWLoadDisp 4 5))
  ∧ (decodeWord 0xD701#16 = some (.movLPc 1 7))
  ∧ (decodeWord 0xC202#16 = some (.movLStoreGbr 2))
  ∧ (decodeWord 0xAFFE#16 = some (.bra 0xFFE))
  ∧ (decodeWord 0x8903#16 = some (.bt 3))
  ∧ (decodeWord 0x0423#16 = some (.braf 4))
  ∧ (decodeWord 0x4B0B#16 = some (.jsr 11))
  ∧ (decodeWord 0xC320#16 = some (.trapa 0x20))
  ∧ (decodeWord 0x450E#16 = some (.ldcSr 5))
  ∧ (decodeWord 0x4F22#16 = some (.stsLPr 15))
  ∧ (decodeWord 0x4F26#16 = some (.ldsLPr 15))
  ∧ (decodeWord 0x471B#16 = some (.tasB 7))
  ∧ (decodeWord 0x421F#16 = some (.macW 1 2))
  ∧ (decodeWord 0xF320#16 = some (.fadd 2 3))
  ∧ (decodeWord 0xF419#16 = some (.fmovPostInc 1 4))
  ∧ (decodeWord 0xF65E#16 = some (.fmac 5 6))
  ∧ (decodeWord 0xF91D#16 = some (.flds 9))
  ∧ (decodeWord 0xF13D#16 = some (.ftrc 1))
  ∧ (decodeWord 0xF22D#16 = some (.float 2))
  ∧ (decodeWord 0x436A#16 = some (.ldsFpscr 3))
  ∧ (decodeWord 0x085A#16 = some (.stsFpul 8))

/-- The six register-only transfers (rules R145, R148, R180 to R183). -/
def Obligations.RegisterTransfers : Prop :=
  ∀ (m n : Reg) (i : BitVec 8) (s : State),
    (Runs (nbCode 0xE n i) (.movImm i n) s (wrote s n (BitVec.ofInt 32 (signed 8 i.toNat))))
    ∧ (Runs (nmCode 0x6 n m 0x3) (.mov m n) s (wrote s n (s.reg m)))
    ∧ (Runs (nCode 0x0 n 0x29) (.movt n) s (wrote s n (BitVec.ofNat 32 (bit s.sr.t))))
    ∧ (Runs (nmCode 0x6 n m 0x8) (.swapB m n) s (wrote s n (BitVec.ofNat 32
        ((s.reg m).toNat / 65536 * 65536 + (s.reg m).toNat % 256 * 256 + (s.reg m).toNat / 256 % 256))))
    ∧ (Runs (nmCode 0x6 n m 0x9) (.swapW m n) s
        (wrote s n (BitVec.ofNat 32 ((s.reg m).toNat % 65536 * 65536 + (s.reg m).toNat / 65536))))
    ∧ (Runs (nmCode 0x2 n m 0xD) (.xtrct m n) s
        (wrote s n (BitVec.ofNat 32 ((s.reg m).toNat % 65536 * 65536 + (s.reg n).toNat / 65536))))

/-- PC-relative addressing, in and out of a delay slot (rules R141, R324). -/
def Obligations.PcRelativeOperands : Prop :=
  ∀ (d : BitVec 8) (n : Reg),
    (LoadsInto (.movWPc d n) .word (fun s => pcOperand s + BitVec.ofNat 32 (d.toNat * 2)) always (fun s v => wrote s n v))
    ∧ (LoadsInto (.movLPc d n) .long (fun s => BitVec.ofNat 32 ((pcOperand s).toNat / 4 * 4 + d.toNat * 4)) always
        (fun s v => wrote s n v))
    ∧ (∀ s, exec (.mova d) s = .next (wrote s 0 (BitVec.ofNat 32 ((pcOperand s).toNat / 4 * 4 + d.toNat * 4))))

/-- Rules R152 to R154, R164 to R166, R170 to R172 and R176 to R178. -/
def Obligations.Loads : Prop :=
  ∀ (m n : Reg) (d : BitVec 4) (e : BitVec 8),
    (LoadsInto (.movBLoad m n) .byte (fun s => s.reg m) always (fun s v => wrote s n v))
    ∧ (LoadsInto (.movWLoad m n) .word (fun s => s.reg m) always (fun s v => wrote s n v))
    ∧ (LoadsInto (.movLLoad m n) .long (fun s => s.reg m) always (fun s v => wrote s n v))
    ∧ (LoadsInto (.movBLoadDisp d m) .byte (fun s => s.reg m + BitVec.ofNat 32 (d.toNat * 1)) always
        (fun s v => wrote s 0 v))
    ∧ (LoadsInto (.movWLoadDisp d m) .word (fun s => s.reg m + BitVec.ofNat 32 (d.toNat * 2)) always
        (fun s v => wrote s 0 v))
    ∧ (LoadsInto (.movLLoadDisp d m n) .long (fun s => s.reg m + BitVec.ofNat 32 (d.toNat * 4)) always
        (fun s v => wrote s n v))
    ∧ (LoadsInto (.movBLoadR0 m n) .byte (fun s => s.reg m + s.reg 0) always (fun s v => wrote s n v))
    ∧ (LoadsInto (.movWLoadR0 m n) .word (fun s => s.reg m + s.reg 0) always (fun s v => wrote s n v))
    ∧ (LoadsInto (.movLLoadR0 m n) .long (fun s => s.reg m + s.reg 0) always (fun s v => wrote s n v))
    ∧ (LoadsInto (.movBLoadGbr e) .byte (fun s => s.gbr + BitVec.ofNat 32 (e.toNat * 1)) always
        (fun s v => wrote s 0 v))
    ∧ (LoadsInto (.movWLoadGbr e) .word (fun s => s.gbr + BitVec.ofNat 32 (e.toNat * 2)) always
        (fun s v => wrote s 0 v))
    ∧ (LoadsInto (.movLLoadGbr e) .long (fun s => s.gbr + BitVec.ofNat 32 (e.toNat * 4)) always
        (fun s v => wrote s 0 v))

/-- Rules R149 to R151, R161 to R163, R167 to R169 and R173 to R175. -/
def Obligations.Stores : Prop :=
  ∀ (m n : Reg) (d : BitVec 4) (e : BitVec 8),
    (StoresAt (.movBStore m n) .byte (fun s => s.reg n) always (fun s => s.reg m) moved)
    ∧ (StoresAt (.movWStore m n) .word (fun s => s.reg n) always (fun s => s.reg m) moved)
    ∧ (StoresAt (.movLStore m n) .long (fun s => s.reg n) always (fun s => s.reg m) moved)
    ∧ (StoresAt (.movBStoreDisp d n) .byte (fun s => s.reg n + BitVec.ofNat 32 (d.toNat * 1)) always
        (fun s => s.reg 0) moved)
    ∧ (StoresAt (.movWStoreDisp d n) .word (fun s => s.reg n + BitVec.ofNat 32 (d.toNat * 2)) always
        (fun s => s.reg 0) moved)
    ∧ (StoresAt (.movLStoreDisp m d n) .long (fun s => s.reg n + BitVec.ofNat 32 (d.toNat * 4)) always
        (fun s => s.reg m) moved)
    ∧ (StoresAt (.movBStoreR0 m n) .byte (fun s => s.reg n + s.reg 0) always (fun s => s.reg m) moved)
    ∧ (StoresAt (.movWStoreR0 m n) .word (fun s => s.reg n + s.reg 0) always (fun s => s.reg m) moved)
    ∧ (StoresAt (.movLStoreR0 m n) .long (fun s => s.reg n + s.reg 0) always (fun s => s.reg m) moved)
    ∧ (StoresAt (.movBStoreGbr e) .byte (fun s => s.gbr + BitVec.ofNat 32 (e.toNat * 1)) always
        (fun s => s.reg 0) moved)
    ∧ (StoresAt (.movWStoreGbr e) .word (fun s => s.gbr + BitVec.ofNat 32 (e.toNat * 2)) always
        (fun s => s.reg 0) moved)
    ∧ (StoresAt (.movLStoreGbr e) .long (fun s => s.gbr + BitVec.ofNat 32 (e.toNat * 4)) always
        (fun s => s.reg 0) moved)

/-- Rules R142, R143 and R155 to R160. -/
def Obligations.StepAddressing : Prop :=
  ∀ m n : Reg,
    (LoadsInto (.movBPostInc m n) .byte (fun s => s.reg m) always
        (fun s v => if n = m then wrote s n v
          else { wrote s n v with regs := (s.regs.set n.val v).set m.val (s.reg m + 1#32) }))
    ∧ (LoadsInto (.movWPostInc m n) .word (fun s => s.reg m) always
        (fun s v => if n = m then wrote s n v
          else { wrote s n v with regs := (s.regs.set n.val v).set m.val (s.reg m + 2#32) }))
    ∧ (LoadsInto (.movLPostInc m n) .long (fun s => s.reg m) always
        (fun s v => if n = m then wrote s n v
          else { wrote s n v with regs := (s.regs.set n.val v).set m.val (s.reg m + 4#32) }))
    ∧ (StoresAt (.movBPreDec m n) .byte (fun s => s.reg n - 1#32) always (fun s => s.reg m)
        (fun s => wrote s n (s.reg n - 1#32)))
    ∧ (StoresAt (.movWPreDec m n) .word (fun s => s.reg n - 2#32) always (fun s => s.reg m)
        (fun s => wrote s n (s.reg n - 2#32)))
    ∧ (StoresAt (.movLPreDec m n) .long (fun s => s.reg n - 4#32) always (fun s => s.reg m)
        (fun s => wrote s n (s.reg n - 4#32)))

/-- Rules R201, R202, R230 and R232. -/
def Obligations.AddAndSubtract : Prop :=
  ∀ (m n : Reg) (i : BitVec 8) (s : State),
    (Runs (nmCode 0x3 n m 0xC) (.add m n) s (wrote s n (BitVec.ofNat 32 ((s.reg n).toNat + (s.reg m).toNat))))
    ∧ (Runs (nbCode 0x7 n i) (.addImm i n) s
        (wrote s n (BitVec.ofInt 32 (((s.reg n).toNat : Int) + signed 8 i.toNat))))
    ∧ (Runs (nmCode 0x6 n m 0xB) (.neg m n) s (wrote s n (BitVec.ofInt 32 (0 - ((s.reg m).toNat : Int)))))
    ∧ (Runs (nmCode 0x3 n m 0x8) (.sub m n) s
        (wrote s n (BitVec.ofInt 32 (((s.reg n).toNat : Int) - ((s.reg m).toNat : Int)))))

/-- Rules R203, R204, R220, R231, R233 and R234. -/
def Obligations.CarriesAndOverflows : Prop :=
  ∀ (m n : Reg) (s : State),
    (Runs (nmCode 0x3 n m 0xE) (.addc m n) s
        (wroteT s n (BitVec.ofNat 32 ((s.reg n).toNat + (s.reg m).toNat + bit s.sr.t))
          (decide (2 ^ 32 ≤ (s.reg n).toNat + (s.reg m).toNat + bit s.sr.t))))
    ∧ (Runs (nmCode 0x3 n m 0xF) (.addv m n) s (wroteT s n (s.reg n + s.reg m)
        (decide ((s.reg n).msb = (s.reg m).msb ∧ (s.reg n + s.reg m).msb ≠ (s.reg n).msb))))
    ∧ (Runs (nCode 0x4 n 0x10) (.dt n) s (wroteT s n (s.reg n - 1#32) (decide ((s.reg n).toNat = 1))))
    ∧ (Runs (nmCode 0x6 n m 0xA) (.negc m n) s
        (wroteT s n (BitVec.ofInt 32 (0 - ((s.reg m).toNat : Int) - bit s.sr.t)) (decide (0 - ((s.reg m).toNat : Int) - bit s.sr.t < 0))))
    ∧ (Runs (nmCode 0x3 n m 0xA) (.subc m n) s
        (wroteT s n (BitVec.ofInt 32 (((s.reg n).toNat : Int) - ((s.reg m).toNat : Int) - bit s.sr.t))
          (decide (((s.reg n).toNat : Int) - ((s.reg m).toNat : Int) - bit s.sr.t < 0))))
    ∧ (Runs (nmCode 0x3 n m 0xB) (.subv m n) s (wroteT s n (s.reg n - s.reg m)
        (decide ((s.reg n).msb ≠ (s.reg m).msb ∧ (s.reg n - s.reg m).msb ≠ (s.reg n).msb))))

/-- Rules R205 to R213. -/
def Obligations.Comparisons : Prop :=
  ∀ (m n : Reg) (i : BitVec 8) (s : State),
    (Runs (byteCode 0x88 i) (.cmpEqImm i) s (setsT s (decide (signed 32 (s.reg 0).toNat = signed 8 i.toNat))))
    ∧ (Runs (nmCode 0x3 n m 0x0) (.cmpEq m n) s (setsT s (decide ((s.reg n).toNat = (s.reg m).toNat))))
    ∧ (Runs (nmCode 0x3 n m 0x2) (.cmpHs m n) s (setsT s (decide ((s.reg m).toNat ≤ (s.reg n).toNat))))
    ∧ (Runs (nmCode 0x3 n m 0x3) (.cmpGe m n) s
        (setsT s (decide (signed 32 (s.reg m).toNat ≤ signed 32 (s.reg n).toNat))))
    ∧ (Runs (nmCode 0x3 n m 0x6) (.cmpHi m n) s (setsT s (decide ((s.reg m).toNat < (s.reg n).toNat))))
    ∧ (Runs (nmCode 0x3 n m 0x7) (.cmpGt m n) s
        (setsT s (decide (signed 32 (s.reg m).toNat < signed 32 (s.reg n).toNat))))
    ∧ (Runs (nCode 0x4 n 0x15) (.cmpPl n) s (setsT s (decide (0 < signed 32 (s.reg n).toNat))))
    ∧ (Runs (nCode 0x4 n 0x11) (.cmpPz n) s (setsT s (decide (0 ≤ signed 32 (s.reg n).toNat))))
    ∧ (Runs (nmCode 0x2 n m 0xC) (.cmpStr m n) s
        (setsT s (decide ((s.reg n).toNat / 16777216 % 256 = (s.reg m).toNat / 16777216 % 256
          ∨ (s.reg n).toNat / 65536 % 256 = (s.reg m).toNat / 65536 % 256
          ∨ (s.reg n).toNat / 256 % 256 = (s.reg m).toNat / 256 % 256 ∨ (s.reg n).toNat % 256 = (s.reg m).toNat % 256))))

/-- Rules R214 to R216. -/
def Obligations.DivisionSteps : Prop :=
  ∀ (m n : Reg) (s : State),
    (let shifted := BitVec.ofNat 32 ((s.reg n).toNat * 2 + bit s.sr.t)
      let divisor := if m = n then shifted else s.reg m
      let out := decide (2 ^ 31 ≤ (s.reg n).toNat)
      let lost := if s.sr.q = s.sr.m then decide (shifted.toNat < divisor.toNat)
        else decide (2 ^ 32 ≤ shifted.toNat + divisor.toNat)
      let rest := if s.sr.q = s.sr.m then shifted - divisor else shifted + divisor
      let q := out ^^ lost ^^ s.sr.m
      exec (.div1 m n) s = .next { wrote s n rest with sr := { s.sr with q := q, t := decide (q = s.sr.m) } })
    ∧ (let q := decide (2 ^ 31 ≤ (s.reg n).toNat)
      let p := decide (2 ^ 31 ≤ (s.reg m).toNat)
      exec (.div0s m n) s = .next { moved s with sr := { s.sr with q := q, m := p, t := decide (q ≠ p) } })
    ∧ exec .div0u s = .next { moved s with sr := { s.sr with q := false, m := false, t := false } }

/-- Rules R218, R219 and R227 to R229. -/
def Obligations.Multiplications : Prop :=
  ∀ (m n : Reg) (s : State),
    (Runs (nmCode 0x3 n m 0xD) (.dmulsL m n) s ({ moved s with
        mach := BitVec.ofInt 32 (signed 32 (s.reg n).toNat * signed 32 (s.reg m).toNat / 2 ^ 32)
        macl := BitVec.ofInt 32 (signed 32 (s.reg n).toNat * signed 32 (s.reg m).toNat) }))
    ∧ (Runs (nmCode 0x3 n m 0x5) (.dmuluL m n) s ({ moved s with
        mach := BitVec.ofNat 32 ((s.reg n).toNat * (s.reg m).toNat / 2 ^ 32)
        macl := BitVec.ofNat 32 ((s.reg n).toNat * (s.reg m).toNat) }))
    ∧ (Runs (nmCode 0x0 n m 0x7) (.mulL m n) s
        ({ moved s with macl := BitVec.ofNat 32 ((s.reg n).toNat * (s.reg m).toNat) }))
    ∧ (Runs (nmCode 0x2 n m 0xF) (.mulsW m n) s ({ moved s with
        macl := BitVec.ofInt 32 (signed 16 ((s.reg n).toNat % 65536) * signed 16 ((s.reg m).toNat % 65536)) }))
    ∧ (Runs (nmCode 0x2 n m 0xE) (.muluW m n) s
        ({ moved s with macl := BitVec.ofNat 32 ((s.reg n).toNat % 65536 * ((s.reg m).toNat % 65536)) }))

/-- Rules R221 to R224. -/
def Obligations.Extensions : Prop :=
  ∀ (m n : Reg) (s : State),
    (Runs (nmCode 0x6 n m 0xE) (.extsB m n) s (wrote s n (BitVec.ofInt 32 (signed 8 ((s.reg m).toNat % 256)))))
    ∧ (Runs (nmCode 0x6 n m 0xF) (.extsW m n) s (wrote s n (BitVec.ofInt 32 (signed 16 ((s.reg m).toNat % 65536)))))
    ∧ (Runs (nmCode 0x6 n m 0xC) (.extuB m n) s (wrote s n (BitVec.ofNat 32 ((s.reg m).toNat % 256))))
    ∧ (Runs (nmCode 0x6 n m 0xD) (.extuW m n) s (wrote s n (BitVec.ofNat 32 ((s.reg m).toNat % 65536))))

/-- Rule R225. The saturation (decision D21, log entry 23) and the state after a misaligned second operand (decision D8, log
entry 21) follow the choices of the spec; what other bus masters write between the two reads is log entry 25. -/
def Obligations.MultiplyAccumulateLong : Prop :=
  ∀ (m n : Reg) (s : State),
    let first := s.reg n
    let second := if m = n then s.reg n + 4#32 else s.reg m
    Accessible s .read .long first →
    (Accessible s .read .long second →
      let s1 := s.busTurn
      let s2 := s1.busTurn
      let product := signed 32 (bytesValue s1.mem first.toNat 4) * signed 32 (bytesValue s2.mem second.toNat 4)
      let total : Int :=
        if s.sr.s then
          max (-2 ^ 47) (min (2 ^ 47 - 1) (signed 48 (s.mach.toNat % 65536 * 2 ^ 32 + s.macl.toNat) + product))
        else ((s.mach.toNat * 2 ^ 32 + s.macl.toNat : Nat) : Int) + product
      exec (.macL m n) s = .next { moved s2 with
        regs := (s.regs.set n.val (first + 4#32)).set m.val (second + 4#32)
        mach := BitVec.ofInt 32 (total / 2 ^ 32)
        macl := BitVec.ofInt 32 total })
    ∧ (second.toNat % 4 ≠ 0 →
      exec (.macL m n) s
        = State.enterAddressError { s.busTurn with regs := s.regs.set n.val (first + 4#32), busLock := false } (moved s).pc)

/-- Rule R226. Bit 0 of MACH (log entry 23) and the state after a misaligned second operand (decision D8, log entry 21) follow
the choices of the spec; what other bus masters write between the two reads is log entry 25. -/
def Obligations.MultiplyAccumulateWord : Prop :=
  ∀ (m n : Reg) (s : State),
    let first := s.reg n
    let second := if m = n then s.reg n + 2#32 else s.reg m
    Accessible s .read .word first →
    (Accessible s .read .word second →
      let s1 := s.busTurn
      let s2 := s1.busTurn
      let product := signed 16 (bytesValue s1.mem first.toNat 2) * signed 16 (bytesValue s2.mem second.toNat 2)
      let wide : Int := ((s.mach.toNat * 2 ^ 32 + s.macl.toNat : Nat) : Int) + product
      let narrow : Int := signed 32 s.macl.toNat + product
      exec (.macW m n) s = .next { moved s2 with
        regs := (s.regs.set n.val (first + 2#32)).set m.val (second + 2#32)
        mach := if s.sr.s then (if narrow < -2 ^ 31 ∨ 2 ^ 31 ≤ narrow then s.mach ||| 1#32 else s.mach)
          else BitVec.ofInt 32 (wide / 2 ^ 32)
        macl := if s.sr.s then BitVec.ofInt 32 (max (-2 ^ 31) (min (2 ^ 31 - 1) narrow)) else BitVec.ofInt 32 wide })
    ∧ (second.toNat % 2 ≠ 0 →
      exec (.macW m n) s
        = State.enterAddressError { s.busTurn with regs := s.regs.set n.val (first + 2#32), busLock := false } (moved s).pc)

/-- The laws of rule R235 on ADDC and SUBC. -/
def Obligations.SixtyFourBitSums : Prop :=
  ∀ s : State,
    let x := (s.reg 0).toNat * 2 ^ 32 + (s.reg 1).toNat
    let y := (s.reg 2).toNat * 2 ^ 32 + (s.reg 3).toNat
    (∃ s1 s2 t, exec .clrt s = .next s1 ∧ exec (.addc 3 1) s1 = .next s2 ∧ exec (.addc 2 0) s2 = .next t
      ∧ (t.reg 0).toNat * 2 ^ 32 + (t.reg 1).toNat = (x + y) % 2 ^ 64 ∧ t.sr.t = decide (2 ^ 64 ≤ x + y))
    ∧ (∃ s1 s2 t, exec .clrt s = .next s1 ∧ exec (.subc 3 1) s1 = .next s2 ∧ exec (.subc 2 0) s2 = .next t
      ∧ (t.reg 0).toNat * 2 ^ 32 + (t.reg 1).toNat = (x + 2 ^ 64 - y) % 2 ^ 64 ∧ t.sr.t = decide (x < y))

/-- Rules R261, R262, R264 to R266, R269, R270, R272 and R273. -/
def Obligations.LogicOnRegisters : Prop :=
  ∀ (m n : Reg) (i : BitVec 8) (s : State),
    (Runs (nmCode 0x2 n m 0x9) (.andReg m n) s (wrote s n (s.reg n &&& s.reg m)))
    ∧ (Runs (byteCode 0xC9 i) (.andImm i) s (wrote s 0 (s.reg 0 &&& BitVec.ofNat 32 i.toNat)))
    ∧ (Runs (nmCode 0x6 n m 0x7) (.notReg m n) s (wrote s n (BitVec.ofNat 32 (2 ^ 32 - 1 - (s.reg m).toNat))))
    ∧ (Runs (nmCode 0x2 n m 0xB) (.orReg m n) s (wrote s n (s.reg n ||| s.reg m)))
    ∧ (Runs (byteCode 0xCB i) (.orImm i) s (wrote s 0 (s.reg 0 ||| BitVec.ofNat 32 i.toNat)))
    ∧ (Runs (nmCode 0x2 n m 0x8) (.tstReg m n) s (setsT s (decide (s.reg n &&& s.reg m = 0#32))))
    ∧ (Runs (byteCode 0xC8 i) (.tstImm i) s (setsT s (decide (s.reg 0 &&& BitVec.ofNat 32 i.toNat = 0#32))))
    ∧ (Runs (nmCode 0x2 n m 0xA) (.xorReg m n) s (wrote s n (s.reg n ^^^ s.reg m)))
    ∧ (Runs (byteCode 0xCA i) (.xorImm i) s (wrote s 0 (s.reg 0 ^^^ BitVec.ofNat 32 i.toNat)))

/-- Rules R263, R267, R268, R271 and R274; the turns of other bus masters are decision D16 (log entry 25). -/
def Obligations.LogicOnMemory : Prop :=
  ∀ (n : Reg) (i : BitVec 8),
    (Modifies (.andB i) (fun s => s.gbr + s.reg 0) (fun b => b &&& i))
    ∧ (Modifies (.orB i) (fun s => s.gbr + s.reg 0) (fun b => b ||| i))
    ∧ (Modifies (.xorB i) (fun s => s.gbr + s.reg 0) (fun b => b ^^^ i))
    ∧ (∀ s, Accessible s .read .byte (s.gbr + s.reg 0) →
        exec (.tstB i) s = .next (setsT s.busTurn (decide (s.busTurn.mem.read (s.gbr + s.reg 0).toNat &&& i = 0#8))))
    ∧ (∀ s, Accessible s .read .byte (s.reg n) → Accessible s .write .byte (s.reg n) →
        let b := s.busTurn.mem.read (s.reg n).toNat
        ∃ t, exec (.tasB n) s = .next t
          ∧ StoredThen s.busTurn t .byte (s.reg n) (b ||| 0x80#8).toNat
              { setsT s.busTurn (decide (b = 0#8)) with busLock := false })

/-- Rules R291 to R298. -/
def Obligations.OneBitShifts : Prop :=
  ∀ (n : Reg) (s : State),
    (Runs (nCode 0x4 n 0x04) (.rotl n) s
        (wroteT s n (BitVec.ofNat 32 ((s.reg n).toNat * 2 + (s.reg n).toNat / 2 ^ 31)) (decide (2 ^ 31 ≤ (s.reg n).toNat))))
    ∧ (Runs (nCode 0x4 n 0x05) (.rotr n) s
        (wroteT s n (BitVec.ofNat 32 ((s.reg n).toNat / 2 + (s.reg n).toNat % 2 * 2 ^ 31)) (decide ((s.reg n).toNat % 2 = 1))))
    ∧ (Runs (nCode 0x4 n 0x24) (.rotcl n) s
        (wroteT s n (BitVec.ofNat 32 ((s.reg n).toNat * 2 + bit s.sr.t)) (decide (2 ^ 31 ≤ (s.reg n).toNat))))
    ∧ (Runs (nCode 0x4 n 0x25) (.rotcr n) s
        (wroteT s n (BitVec.ofNat 32 ((s.reg n).toNat / 2 + bit s.sr.t * 2 ^ 31)) (decide ((s.reg n).toNat % 2 = 1))))
    ∧ (Runs (nCode 0x4 n 0x20) (.shal n) s
        (wroteT s n (BitVec.ofNat 32 ((s.reg n).toNat * 2)) (decide (2 ^ 31 ≤ (s.reg n).toNat))))
    ∧ (Runs (nCode 0x4 n 0x21) (.shar n) s
        (wroteT s n (BitVec.ofNat 32 ((s.reg n).toNat / 2 + (s.reg n).toNat / 2 ^ 31 * 2 ^ 31)) (decide ((s.reg n).toNat % 2 = 1))))
    ∧ (Runs (nCode 0x4 n 0x00) (.shll n) s
        (wroteT s n (BitVec.ofNat 32 ((s.reg n).toNat * 2)) (decide (2 ^ 31 ≤ (s.reg n).toNat))))
    ∧ (Runs (nCode 0x4 n 0x01) (.shlr n) s
        (wroteT s n (BitVec.ofNat 32 ((s.reg n).toNat / 2)) (decide ((s.reg n).toNat % 2 = 1))))

/-- Rules R299 to R304. -/
def Obligations.MultiBitShifts : Prop :=
  ∀ (n : Reg) (s : State),
    (Runs (nCode 0x4 n 0x08) (.shll2 n) s (wrote s n (BitVec.ofNat 32 ((s.reg n).toNat * 4))))
    ∧ (Runs (nCode 0x4 n 0x09) (.shlr2 n) s (wrote s n (BitVec.ofNat 32 ((s.reg n).toNat / 4))))
    ∧ (Runs (nCode 0x4 n 0x18) (.shll8 n) s (wrote s n (BitVec.ofNat 32 ((s.reg n).toNat * 256))))
    ∧ (Runs (nCode 0x4 n 0x19) (.shlr8 n) s (wrote s n (BitVec.ofNat 32 ((s.reg n).toNat / 256))))
    ∧ (Runs (nCode 0x4 n 0x28) (.shll16 n) s (wrote s n (BitVec.ofNat 32 ((s.reg n).toNat * 65536))))
    ∧ (Runs (nCode 0x4 n 0x29) (.shlr16 n) s (wrote s n (BitVec.ofNat 32 ((s.reg n).toNat / 65536))))

/-- Rules R326 and R328. In a delay slot both are slot illegal: `Obligations.IllegalInstructionsTrap`. -/
def Obligations.ConditionalBranches : Prop :=
  ∀ (d : BitVec 8) (s : State), s.slot = none →
    Runs (byteCode 0x8B d) (.bf d) s { moved s with pc := if s.sr.t then s.pc + 2#32 else BitVec.ofInt 32 ((s.pc.toNat : Int) + 4 + 2 * signed 8 d.toNat) }
    ∧ Runs (byteCode 0x89 d) (.bt d) s { moved s with pc := if s.sr.t then BitVec.ofInt 32 ((s.pc.toNat : Int) + 4 + 2 * signed 8 d.toNat) else s.pc + 2#32 }

/-- Rules R327 and R329; that an untaken one has no slot is decision D22 (log entry 24). -/
def Obligations.DelayedConditionalBranches : Prop :=
  ∀ (d : BitVec 8) (s : State), s.slot = none →
    exec (.bfS d) s = .next (if s.sr.t then moved s else delayed s (BitVec.ofInt 32 ((s.pc.toNat : Int) + 4 + 2 * signed 8 d.toNat)))
    ∧ exec (.btS d) s = .next (if s.sr.t then delayed s (BitVec.ofInt 32 ((s.pc.toNat : Int) + 4 + 2 * signed 8 d.toNat)) else moved s)

/-- Rules R330 to R336 with the mechanism of rules R322 and R323. -/
def Obligations.DelayedBranches : Prop :=
  ∀ (e : BitVec 12) (m : Reg) (s : State), s.slot = none →
    exec (.bra e) s = .next (delayed s (BitVec.ofInt 32 ((s.pc.toNat : Int) + 4 + 2 * signed 12 e.toNat)))
    ∧ exec (.braf m) s = .next (delayed s (BitVec.ofNat 32 (s.pc.toNat + 4 + (s.reg m).toNat)))
    ∧ exec (.bsr e) s = .next { delayed s (BitVec.ofInt 32 ((s.pc.toNat : Int) + 4 + 2 * signed 12 e.toNat)) with pr := s.pc + 4#32 }
    ∧ exec (.bsrf m) s = .next { delayed s (BitVec.ofNat 32 (s.pc.toNat + 4 + (s.reg m).toNat)) with pr := s.pc + 4#32 }
    ∧ exec (.jmp m) s = .next (delayed s (s.reg m))
    ∧ exec (.jsr m) s = .next { delayed s (s.reg m) with pr := s.pc + 4#32 }
    ∧ exec .rts s = .next (delayed s s.pr)

/-- A delay slot is exactly one instruction (rule R322 step 6); exceptions in it save the branch target (rule R531, decision D3,
log entry 12), and SLEEP in it sleeps at the target (log entry 15). What an instruction did before the access at fault is
decision D8 (log entries 21 and 34), a fault inside an entry decision D10 (log entries 13 and 14), and the turns of other
bus masters decision D16 (log entry 25). -/
def Obligations.SlotIsOneInstruction : Prop :=
  ∀ (i : Instr) (s t : State) (target : Word), s.slot = some target → exec i s = .next t →
    (t.mode = .doubleFault ∧ t.slot = s.slot ∧ t.pc = s.pc)
      ∨ (t.slot = none ∧ t.pc = target)
      ∨ ∃ u v, SlotTrapsFrom i s u v target ∧ Entered u t v target u.sr
          ∧ (s.bus = [] → FrameStacked s.mem t.mem (u.reg 15) u.sr target)

/-- Rules R362, R363, R376 and R378. -/
def Obligations.FlagAndAccumulatorClears : Prop :=
  ∀ s : State,
    (Runs 0x0008#16 .clrt s (setsT s false))
    ∧ (Runs 0x0028#16 .clrmac s ({ moved s with mach := 0#32, macl := 0#32 }))
    ∧ (Runs 0x0009#16 .nop s (moved s))
    ∧ (Runs 0x0018#16 .sett s (setsT s true))

/-- Rules R364 to R366, R370 to R372, R380 to R382 and R386 to R388, with rule R361. -/
def Obligations.ControlAndSystemRegisters : Prop :=
  ∀ (m n : Reg) (s : State),
    (Runs (nCode 0x4 m 0x0E) (.ldcSr m) s (inhibited { moved s with sr := srOf (s.reg m) }))
    ∧ (Runs (nCode 0x4 m 0x1E) (.ldcGbr m) s (inhibited { moved s with gbr := s.reg m }))
    ∧ (Runs (nCode 0x4 m 0x2E) (.ldcVbr m) s (inhibited { moved s with vbr := s.reg m }))
    ∧ (Runs (nCode 0x4 m 0x0A) (.ldsMach m) s (inhibited { moved s with mach := s.reg m }))
    ∧ (Runs (nCode 0x4 m 0x1A) (.ldsMacl m) s (inhibited { moved s with macl := s.reg m }))
    ∧ (Runs (nCode 0x4 m 0x2A) (.ldsPr m) s (inhibited { moved s with pr := s.reg m }))
    ∧ (Runs (nCode 0x0 n 0x02) (.stcSr n) s (inhibited (wrote s n (srWord s.sr))))
    ∧ (Runs (nCode 0x0 n 0x12) (.stcGbr n) s (inhibited (wrote s n s.gbr)))
    ∧ (Runs (nCode 0x0 n 0x22) (.stcVbr n) s (inhibited (wrote s n s.vbr)))
    ∧ (Runs (nCode 0x0 n 0x0A) (.stsMach n) s (inhibited (wrote s n s.mach)))
    ∧ (Runs (nCode 0x0 n 0x1A) (.stsMacl n) s (inhibited (wrote s n s.macl)))
    ∧ (Runs (nCode 0x0 n 0x2A) (.stsPr n) s (inhibited (wrote s n s.pr)))

/-- Rules R367 to R369, R373 to R375, R383 to R385 and R389 to R391, with rule R361. -/
def Obligations.ControlAndSystemRegistersInMemory : Prop :=
  ∀ m n : Reg,
    (LoadsInto (.ldcLSr m) .long (fun s => s.reg m) always
        (fun s v => inhibited { wrote s m (s.reg m + 4#32) with sr := srOf v }))
    ∧ (LoadsInto (.ldcLGbr m) .long (fun s => s.reg m) always
        (fun s v => inhibited { wrote s m (s.reg m + 4#32) with gbr := v }))
    ∧ (LoadsInto (.ldcLVbr m) .long (fun s => s.reg m) always
        (fun s v => inhibited { wrote s m (s.reg m + 4#32) with vbr := v }))
    ∧ (LoadsInto (.ldsLMach m) .long (fun s => s.reg m) always
        (fun s v => inhibited { wrote s m (s.reg m + 4#32) with mach := v }))
    ∧ (LoadsInto (.ldsLMacl m) .long (fun s => s.reg m) always
        (fun s v => inhibited { wrote s m (s.reg m + 4#32) with macl := v }))
    ∧ (LoadsInto (.ldsLPr m) .long (fun s => s.reg m) always
        (fun s v => inhibited { wrote s m (s.reg m + 4#32) with pr := v }))
    ∧ (StoresAt (.stcLSr n) .long (fun s => s.reg n - 4#32) always (fun s => srWord s.sr)
        (fun s => inhibited (wrote s n (s.reg n - 4#32))))
    ∧ (StoresAt (.stcLGbr n) .long (fun s => s.reg n - 4#32) always (fun s => s.gbr)
        (fun s => inhibited (wrote s n (s.reg n - 4#32))))
    ∧ (StoresAt (.stcLVbr n) .long (fun s => s.reg n - 4#32) always (fun s => s.vbr)
        (fun s => inhibited (wrote s n (s.reg n - 4#32))))
    ∧ (StoresAt (.stsLMach n) .long (fun s => s.reg n - 4#32) always (fun s => s.mach)
        (fun s => inhibited (wrote s n (s.reg n - 4#32))))
    ∧ (StoresAt (.stsLMacl n) .long (fun s => s.reg n - 4#32) always (fun s => s.macl)
        (fun s => inhibited (wrote s n (s.reg n - 4#32))))
    ∧ (StoresAt (.stsLPr n) .long (fun s => s.reg n - 4#32) always (fun s => s.pr)
        (fun s => inhibited (wrote s n (s.reg n - 4#32))))

/-- Rule R377; the turns of other bus masters are decision D16 (log entry 25). -/
def Obligations.ReturnFromException : Prop :=
  ∀ s : State, s.slot = none → Accessible s .read .long (s.reg 15) → Accessible s .read .long (s.reg 15 + 4#32) →
    let s1 := s.busTurn
    let s2 := s1.busTurn
    exec .rte s = .next (delayed
      { s2 with
        regs := s.regs.set 15 (s.reg 15 + 8#32)
        sr := srOf (BitVec.ofNat 32 (bytesValue s2.mem (s.reg 15 + 4#32).toNat 4)) }
      (BitVec.ofNat 32 (bytesValue s1.mem (s.reg 15).toNat 4)))

/-- Rules R379 and R561; what wakes the CPU is decision D13. The model's and the spec's choices: the pc that SLEEP leaves in a
delay slot (log entry 15), and the frame, saved PC and SR of the FPU exception (decisions D1, D3 and D4, log entry 12). That
an accepted interrupt wakes the CPU is `Obligations.InterruptAcceptance`. -/
def Obligations.SleepAndWake : Prop :=
  ∀ s : State,
    exec .sleep s = .next { moved s with mode := .asleep }
    ∧ (s.mode = .asleep → NoReset s → s.fpuPending = none → (∀ r ∈ (absorbed s).irq, ¬ Eligible s r) →
        step s = .next (absorbed s))
    ∧ (∀ k, s.mode = .asleep → NoReset s → s.fpuPending = some k → FrameReady s 13#8 →
        ∃ t, step s = .next t ∧ Entered { absorbed s with fpuPending := none, mode := .running } t 13#8 s.pc s.sr)

/-- Rule R392, the instance of rule R530 that rule R518 names; the turns of other bus masters are decision D16 (log entry 25).
Where R15 or VBR is misaligned: `Obligations.DoubleFault`. -/
def Obligations.TrapEntry : Prop :=
  ∀ (i : BitVec 8) (s : State), s.slot = none → FrameReady s i →
    ∃ t, exec (.trapa i) s = .next t ∧ Entered s t i (s.pc + 2#32) s.sr

/-- Rule R530, steps 1 to 6; one frame for every exception is decision D1 (log entry 12), the turns of other bus masters are
decision D16 (log entry 25). -/
def Obligations.ExceptionEntry : Prop :=
  ∀ (s : State) (v : BitVec 8) (spc : Word) (mask : Option (BitVec 4)),
    (FrameReady s v →
      ∃ t, s.enter v spc mask = .next t ∧ Entered s t v spc (match mask with | some l => { s.sr with i := l } | none => s.sr))
    ∧ (FrameReady s s.platform.vec.addressError →
      ∃ t, s.enterAddressError spc = .next t ∧ Entered s t s.platform.vec.addressError spc s.sr)

/-- Rule R534, decision D10; the retry and the terminal state are log entries 13 and 14. -/
def Obligations.DoubleFault : Prop :=
  ∀ (s : State) (v : BitVec 8) (spc : Word) (mask : Option (BitVec 4)),
    ((s.reg 15).toNat % 4 ≠ 0 →
      s.enter v spc mask = .next { s with mode := .doubleFault }
        ∧ s.enterAddressError spc = .next { s with mode := .doubleFault }
        ∧ (s.slot = none → exec (.trapa v) s = .next { s with mode := .doubleFault }))
    ∧ (Accessible s .write .long (s.reg 15 - 4#32) → Accessible s .write .long (s.reg 15 - 8#32) → s.vbr.toNat % 4 ≠ 0 →
      DoubleFaulted s spc (s.enter v spc mask)
        ∧ DoubleFaulted s spc (s.enterAddressError spc)
        ∧ (s.slot = none → DoubleFaulted s (s.pc + 2#32) (exec (.trapa v) s)))
    ∧ (s.mode = .doubleFault → NoReset s → step s = .next (absorbed s))

/-- Rules R515, R517 and R523; the saved PC is decision D3 (log entry 12), the order with a pending exception log entry 11. -/
def Obligations.IllegalInstructionsTrap : Prop :=
  ∀ s : State,
    (∀ i : Instr, i.rewritesPc = true → s.slot ≠ none → TakesIllegal s (exec i s))
    ∧ (∀ i : Instr, i.usesFpu = true → s.fpuStopped = true → TakesIllegal s (exec i s))
    ∧ (∀ code : Half, Unassigned code → TakesIllegal s (s.executeCode code))

/-- Rule R527; that it holds at every count is log entry 33. -/
def Obligations.PendingFpuExceptionMakesNops : Prop :=
  ∀ (i : Instr) (s : State), i.usesFpu = true → s.fpuStopped = false → s.fpuPending ≠ none → exec i s = .next (moved s)

/-- Rules R62, R64 and R516; saved PC and the absence of other effects are decisions D3 and D8 (log entries 12 and 21), that the
fetch of a slot instruction is no exception to them is log entry 17, and that nothing is accepted after an inhibit is D11
(log entry 32). What the entry leaves is `Obligations.ExceptionEntry`. -/
def Obligations.MisalignedAccessesTrap : Prop :=
  ∀ s : State,
    (∀ (i : Instr) (w : Width) (a : Word), firstAccess i s = some (w, a) → a.toNat % widthBytes w ≠ 0 →
      (i.usesFpu = true → FpuReady s) → exec i s = State.enterAddressError { s with busLock := false } (moved s).pc)
    ∧ (∀ i : BitVec 8, s.slot = none → (s.reg 15 - 4#32).toNat % 4 ≠ 0 →
      exec (.trapa i) s = .next { s with mode := .doubleFault })
    ∧ (Continues s →
      s.pc.toNat % 2 ≠ 0 ∨ backingOf s.platform.memMap .fetch .word s.pc.toNat = .addressError →
      step s = (absorbed s).enterAddressError s.pc)

/-- Rules R64, R90 and R545; every decoded instruction is well formed as syntax (rule R94). The choices it rests on: a slot or an
inhibit holds back a due FPU exception too (decision D11, log entry 32), and how the platform's inputs and other bus
masters come in (log entries 7 and 25). -/
def Obligations.StepRunsDecodedInstruction : Prop :=
  ∀ s : State, Continues s → Accessible s .fetch .word s.pc →
    let u := (absorbed s).busTurn
    (∀ i, decodeWord (u.fetchedCode s.pc.toNat) = some i → step s = exec i u.afterFetch)
    ∧ (decodeWord (u.fetchedCode s.pc.toNat) = none → step s = u.afterFetch.raiseIllegal)
    ∧ (s.recent = [] → (u.fetchedCode s.pc.toNat).toNat = bytesValue u.mem s.pc.toNat 2
        ∧ u.afterFetch = { u with fpuPending := u.fpuPending.map (· - 1) })
    ∧ (s.inputs = [] → u = { s with bus := [] })

/-- Rules R540, R541, R543 and R545. Choices: the comparison and the new mask are decisions D5 and D4, the ranks decision D9, the
order of equals and the vector number of NMI log entry 9, taking the request off the list log entry 8, and frame, saved PC
and SR decisions D1, D3 and D4 (log entry 12). -/
def Obligations.InterruptAcceptance : Prop :=
  ∀ (s : State) (r : IrqRequest) (before after : List IrqRequest), NoReset s →
    (s.mode = .running ∧ s.slot = none ∧ s.intInhibit = false ∧ s.fpuPending ≠ some 0)
      ∨ (s.mode = .asleep ∧ s.fpuPending = none) →
    (absorbed s).irq = before ++ r :: after → Eligible s r →
    (∀ q ∈ before, Eligible s q → Outranks s r q) → (∀ q ∈ after, Eligible s q → ¬ Outranks s q r) →
    let v := if r.level = 16 then s.platform.vec.nmi else r.vector
    FrameReady s v →
    ∃ t, step s = .next t
      ∧ Entered { absorbed s with irq := before ++ after, mode := .running } t v s.pc
          { s.sr with i := BitVec.ofNat 4 (min r.level 15) }

/-- Rules R513 and R527. Choices: the order of events is decision D9 (log entry 9), the count of instructions D11 (log entry 10),
and frame, saved PC and unchanged SR are decisions D1, D3 and D4 (log entry 12). -/
def Obligations.FpuExceptionAcceptance : Prop :=
  ∀ s : State, NoReset s → s.mode = .running → s.slot = none → s.intInhibit = false → s.fpuPending = some 0 →
    FrameReady s 13#8 →
    ∃ t, step s = .next t ∧ Entered { absorbed s with fpuPending := none } t 13#8 s.pc s.sr

/-- Rules R570 and R573. What the spec calls arbitrary is left open (log entry 19). Choices: the manual reset and its own vector
address (rule R572, D17, log entry 5, PRESUMED), the list of inputs and a reset before everything in its step (D9, log entry
7), and the turns of other bus masters before the two reads (D16, log entry 25). -/
def Obligations.ResetEvent : Prop :=
  ∀ (s : State) (p : PlatformInput) (rest : List PlatformInput) (k : ResetKind),
    s.inputs = p :: rest → p.reset = some k →
    let vector := match k with
      | .powerOn => s.platform.resetVectorAddr
      | .manual => s.platform.manualResetVectorAddr
    Accessible s .read .long vector → Accessible s .read .long (vector + 4#32) →
    let s1 := (absorbed s).busTurn
    let s2 := s1.busTurn
    ∃ t, step s = .next t ∧ t.pc.toNat = bytesValue s1.mem vector.toNat 4
      ∧ (t.reg 15).toNat = bytesValue s2.mem (vector + 4#32).toNat 4
      ∧ t.vbr = 0#32 ∧ t.sr.i = 15#4 ∧ fpscrWord t.fpscr = 0x00040001#32
      ∧ t.slot = none ∧ t.intInhibit = false ∧ t.fpuPending = none ∧ t.busLock = false ∧ t.fpuStopped = false
      ∧ t.mode = .running ∧ t.mem = s2.mem ∧ t.platform = s.platform ∧ t.irq = p.irq ∧ t.inputs = rest

/-- Rule R41, with the values of rules R40 and R573 that the spec gives. -/
def Obligations.ResetState : Prop :=
  State.reset.fpuStopped = false ∧ State.reset.sr.i = 0b1111#4 ∧ State.reset.vbr = 0#32
    ∧ fpscrWord State.reset.fpscr = 0x00040001#32 ∧ State.reset.slot = none ∧ State.reset.intInhibit = false
    ∧ State.reset.fpuPending = none ∧ State.reset.busLock = false ∧ State.reset.mode = .running

/-- Rules R24, R25, R35 and R36. -/
def Obligations.StatusWords : Prop :=
  (∀ w : Word, (Sr.ofWord w).toWord = w &&& 0x000003F3#32 ∧ (Fpscr.ofWord w).toWord = w &&& 0x00018C60#32 ||| 0x00040001#32)
    ∧ (∀ r : Sr, Sr.ofWord r.toWord = r ∧ r.toWord = srWord r)
    ∧ (∀ r : Fpscr, Fpscr.ofWord r.toWord = r ∧ r.toWord = fpscrWord r)

/-- Rules R425, R426, R429 and R449; the sign of an exact zero sum is the spec's PRESUMED choice (log entry 22). -/
def Obligations.FpSumsAndDifferences : Prop :=
  ∀ m n : Word, IsSum (fpAdd m n) m n ∧ IsSum (fpSub m n) n (m ^^^ 0x80000000#32)

/-- Rules R425, R426 and R446. -/
def Obligations.FpProducts : Prop :=
  ∀ m n : Word, IsProduct (fpMul m n) m n

/-- Rules R425, R426 and R433. -/
def Obligations.FpQuotients : Prop :=
  ∀ m n : Word, IsQuotient (fpDiv m n) n m

/-- Rules R437 and R450. -/
def Obligations.FpConversions : Prop :=
  ∀ x : Word, Truncated (signed 32 x.toNat : ℚ) (negative x) (fpOfInt x) ∧ IsTruncation (fpTrunc x) x

/-- Rules R423 and R427 for the seven instructions that write FRn alone; rules R428 and R447 for FABS and FNEG.
That a raised exception is pending with any count up to FpuExcSkid is rule R527, decision D11 (log entry 10). -/
def Obligations.FpArithmeticInstructions : Prop :=
  ∀ m n : FReg,
    Computes (.fadd m n) n (fun s => fpAdd (s.fr m) (s.fr n))
    ∧ Computes (.fsub m n) n (fun s => fpSub (s.fr m) (s.fr n))
    ∧ Computes (.fmul m n) n (fun s => fpMul (s.fr m) (s.fr n))
    ∧ Computes (.fdiv m n) n (fun s => fpDiv (s.fr m) (s.fr n))
    ∧ Computes (.float n) n (fun s => .value (fpOfInt s.fpul))
    ∧ Computes (.fabs n) n (fun s => fpAbs (s.fr n))
    ∧ Computes (.fneg n) n (fun s => fpNeg (s.fr n))
    ∧ ∀ x : Word,
        (isNorm x ∨ isInf x → fpAbs x = .value (BitVec.ofNat 32 (x.toNat % 2 ^ 31)) ∧ fpNeg x = .value (x ^^^ 0x80000000#32))
        ∧ (isZero x → fpAbs x = .value 0x00000000#32 ∧ fpNeg x = .value (zeroOf (!negative x)))
        ∧ (isQNaN x → fpAbs x = .value 0x7FBFFFFF#32 ∧ fpNeg x = .value 0x7FBFFFFF#32)
        ∧ (isSNaN x → fpAbs x = .invalid ∧ fpNeg x = .invalid)

/-- Rule R438; the two roundings are decision D20 (log entry 22), and that a raised exception is pending with any count up to
FpuExcSkid is rule R527, decision D11 (log entry 10). -/
def Obligations.FpMultiplyAdd : Prop :=
  ∀ (m n : FReg) (s : State), FpuReady s →
    let product := fpMul (s.fr 0) (s.fr m)
    let first := settled s.fpscr product
    let sum := fpAdd (untrapped product) (s.fr n)
    let second := { settled first sum with cv := first.cv || (settled first sum).cv }
    (trapped s.fpscr product = true → RaisesFpu (.fmac m n) s first)
    ∧ (trapped s.fpscr product = false → trapped s.fpscr sum = true → RaisesFpu (.fmac m n) s second)
    ∧ (trapped s.fpscr product = false → trapped s.fpscr sum = false →
        exec (.fmac m n) s = .next { wroteFr s n (untrapped sum) with fpscr := second })

/-- Rules R430 to R432; that a raised exception is pending with any count up to FpuExcSkid is rule R527, decision D11 (log
entry 10). -/
def Obligations.FpComparisons : Prop :=
  ∀ (m n : FReg) (s : State), FpuReady s →
    let signaling := isSNaN (s.fr m) ∨ isSNaN (s.fr n)
    let quiet := isQNaN (s.fr m) ∨ isQNaN (s.fr n)
    (signaling →
        if s.fpscr.ev = true then RaisesFpu (.fcmpEq m n) s (settled s.fpscr .invalid)
        else exec (.fcmpEq m n) s = .next { setsT s false with fpscr := settled s.fpscr .invalid })
    ∧ (¬ signaling → quiet → exec (.fcmpEq m n) s = .next { setsT s false with fpscr := settled s.fpscr (.value 0#32) })
    ∧ (¬ signaling → ¬ quiet → ∀ b, (b = true ↔ fpSame (s.fr n) (s.fr m)) →
        exec (.fcmpEq m n) s = .next { setsT s b with fpscr := settled s.fpscr (.value 0#32) })
    ∧ (signaling ∨ quiet →
        if s.fpscr.ev = true then RaisesFpu (.fcmpGt m n) s (settled s.fpscr .invalid)
        else exec (.fcmpGt m n) s = .next { setsT s false with fpscr := settled s.fpscr .invalid })
    ∧ (¬ signaling → ¬ quiet → ∀ b, (b = true ↔ fpGreater (s.fr n) (s.fr m)) →
        exec (.fcmpGt m n) s = .next { setsT s b with fpscr := settled s.fpscr (.value 0#32) })

/-- Rule R450; what `fpTrunc` is: `Obligations.FpConversions`. That a raised exception is pending with any count up to
FpuExcSkid is rule R527, decision D11 (log entry 10). -/
def Obligations.FpTruncationInstruction : Prop :=
  ∀ (m : FReg) (s : State), FpuReady s →
    ((fpTrunc (s.fr m)).2 = false →
        exec (.ftrc m) s
          = .next { moved s with fpul := (fpTrunc (s.fr m)).1, fpscr := settled s.fpscr (.value 0#32) })
    ∧ ((fpTrunc (s.fr m)).2 = true → s.fpscr.ev = false →
        exec (.ftrc m) s = .next { moved s with fpul := (fpTrunc (s.fr m)).1, fpscr := settled s.fpscr .invalid })
    ∧ ((fpTrunc (s.fr m)).2 = true → s.fpscr.ev = true → RaisesFpu (.ftrc m) s (settled s.fpscr .invalid))

/-- Rules R434 to R436, R439, R448, R492, R493, R496 and R497; that LDS and STS do not inhibit interrupts is decision D23 (log
entry 24, rule R491). FPU stopped or an exception pending:
`Obligations.IllegalInstructionsTrap` and `Obligations.PendingFpuExceptionMakesNops`. -/
def Obligations.FpCopiesAndFpuRegisters : Prop :=
  ∀ (m n : Reg) (s : State), FpuReady s →
    (Runs (nCode 0xF n 0x8D) (.fldi0 n) s (wroteFr s n 0x00000000#32))
    ∧ (Runs (nCode 0xF n 0x9D) (.fldi1 n) s (wroteFr s n 0x3F800000#32))
    ∧ (Runs (nCode 0xF m 0x1D) (.flds m) s ({ moved s with fpul := s.fr m }))
    ∧ (Runs (nmCode 0xF n m 0xC) (.fmov m n) s (wroteFr s n (s.fr m)))
    ∧ (Runs (nCode 0xF n 0x0D) (.fsts n) s (wroteFr s n s.fpul))
    ∧ (Runs (nCode 0x4 m 0x6A) (.ldsFpscr m) s ({ moved s with fpscr := fpscrOf (s.reg m) }))
    ∧ (Runs (nCode 0x4 m 0x5A) (.ldsFpul m) s ({ moved s with fpul := s.reg m }))
    ∧ (Runs (nCode 0x0 n 0x6A) (.stsFpscr n) s (wrote s n (fpscrWord s.fpscr)))
    ∧ (Runs (nCode 0x0 n 0x5A) (.stsFpul n) s (wrote s n s.fpul))

/-- Rules R440 to R445, R494, R495, R498 and R499; that LDS.L and STS.L do not inhibit interrupts is decision D23 (log entry 24,
rule R491). -/
def Obligations.FpMemory : Prop :=
  ∀ m n : Reg,
    (LoadsInto (.fmovLoad m n) .long (fun s => s.reg m) FpuReady
        (fun s v => wroteFr s n v))
    ∧ (LoadsInto (.fmovPostInc m n) .long (fun s => s.reg m) FpuReady
        (fun s v => { wrote s m (s.reg m + 4#32) with frs := s.frs.set n.val v }))
    ∧ (LoadsInto (.fmovLoadR0 m n) .long (fun s => s.reg m + s.reg 0) FpuReady
        (fun s v => wroteFr s n v))
    ∧ (StoresAt (.fmovStore m n) .long (fun s => s.reg n) FpuReady (fun s => s.fr m)
        (moved))
    ∧ (StoresAt (.fmovPreDec m n) .long (fun s => s.reg n - 4#32) FpuReady (fun s => s.fr m)
        (fun s => wrote s n (s.reg n - 4#32)))
    ∧ (StoresAt (.fmovStoreR0 m n) .long (fun s => s.reg n + s.reg 0) FpuReady (fun s => s.fr m)
        (moved))
    ∧ (LoadsInto (.ldsLFpscr m) .long (fun s => s.reg m) FpuReady
        (fun s v => { wrote s m (s.reg m + 4#32) with fpscr := fpscrOf v }))
    ∧ (LoadsInto (.ldsLFpul m) .long (fun s => s.reg m) FpuReady
        (fun s v => { wrote s m (s.reg m + 4#32) with fpul := v }))
    ∧ (StoresAt (.stsLFpscr n) .long (fun s => s.reg n - 4#32) FpuReady (fun s => fpscrWord s.fpscr)
        (fun s => wrote s n (s.reg n - 4#32)))
    ∧ (StoresAt (.stsLFpul n) .long (fun s => s.reg n - 4#32) FpuReady (fun s => s.fpul)
        (fun s => wrote s n (s.reg n - 4#32)))

/-- The invariant of `Obligations.StepKeepsInvariant` holds right after reset. -/
def Obligations.ResetInvariant : Prop :=
  State.reset.Inv = true

/-- Nothing comes between a delayed branch and its slot (rules R323, R542), the bus lock never outlives TAS.B (rule R73), and
memory keeps its one form, through every instruction, exception, interrupt, reset and write of another bus master. -/
def Obligations.StepKeepsInvariant : Prop :=
  ∀ s t : State, s.Inv = true → step s = .next t → t.Inv = true

/-- The complete lists of rule R26, over all instructions and the exceptions they take; that an address error, an illegal
instruction or a trap leaves I as it was is rule R532, decision D4 (log entry 12). -/
def Obligations.StatusRegisterWriters : Prop :=
  ∀ (i : Instr) (s t : State), exec i s = .next t →
    (loadsSr i = false → t.sr.i = s.sr.i ∧ t.sr.s = s.sr.s)
    ∧ (writesQM i = false → t.sr.q = s.sr.q ∧ t.sr.m = s.sr.m)
    ∧ (writesT i = false → t.sr.t = s.sr.t)

/-- Exceptions save and change none of these (rule R530). -/
def Obligations.SystemRegisterWriters : Prop :=
  ∀ (i : Instr) (s t : State), exec i s = .next t →
    (writesMac i = false → t.mach = s.mach ∧ t.macl = s.macl)
    ∧ (writesPr i = false → t.pr = s.pr) ∧ (writesGbr i = false → t.gbr = s.gbr) ∧ (writesVbr i = false → t.vbr = s.vbr)
    ∧ (i.usesFpu = false → t.frs = s.frs ∧ t.fpul = s.fpul ∧ t.fpscr = s.fpscr ∧ t.fpuPending = s.fpuPending)

/-- Rules R73 and R74; that other masters act between any two accesses is decision D16 (log entry 25). -/
def Obligations.OtherMastersWriteBetweenAccesses : Prop :=
  ∀ s : State,
    { s.busTurn with mem := s.mem, bus := s.bus } = s
    ∧ (s.busLock = true ∨ s.bus = [] → s.busTurn = s)
    ∧ (∀ writes rest, s.busLock = false → s.bus = writes :: rest →
        s.busTurn.bus = rest
        ∧ ∀ c, s.busTurn.mem.read c =
            match writes.reverse.find? (fun e => e.1 % 2 ^ 32 = c) with
            | some e => e.2
            | none => s.mem.read c)
end

