-- ==== Sys2Proof/Laws/Memory.lean ====
section
/-! SUPPORT. The laws of memory: reading after writing, the canonical form that every operation keeps, and big-endian words
and longwords as their bytes. -/

namespace Sys2Proof.Machine

open Sys2Proof.Config

/-! ## Reading after writing one byte -/

theorem Memory.read_erase_same (m : Memory) (a : Nat) : (m.erase a).read a = Memory.unlisted := by
  induction m with
  | nil => rfl
  | cons e rest ih =>
    obtain ⟨k, b⟩ := e
    by_cases h : k = a <;> simp [Memory.erase, Memory.read, h, ih]

theorem Memory.read_erase_ne (m : Memory) {a c : Nat} (h : c ≠ a) : (m.erase a).read c = m.read c := by
  induction m with
  | nil => rfl
  | cons e rest ih =>
    obtain ⟨k, b⟩ := e
    by_cases hk : k = a
    · subst hk
      simp [Memory.erase, Memory.read, ih, Ne.symm h]
    · simp [Memory.erase, Memory.read, hk, ih]

/-- No entry of the list is at address `a`. -/
def Memory.Free (m : Memory) (a : Nat) : Prop := ∀ e ∈ m, e.1 ≠ a

theorem Memory.erase_free (m : Memory) (a : Nat) : (m.erase a).Free a := by
  induction m with
  | nil => simp [Memory.Free, Memory.erase]
  | cons e rest ih =>
    obtain ⟨k, b⟩ := e
    by_cases h : k = a
    · simpa [Memory.erase, h] using ih
    · simpa [Memory.erase, Memory.Free, h] using ih

theorem Memory.read_insert_same (m : Memory) (a : Nat) (b : Byte) (h : m.Free a) : (m.insert a b).read a = b := by
  induction m with
  | nil => simp [Memory.insert, Memory.read]
  | cons e rest ih =>
    obtain ⟨k, c⟩ := e
    have hk : k ≠ a := h (k, c) (by simp)
    have hr : Memory.Free rest a := fun e he => h e (by simp [he])
    by_cases hlt : a < k <;> simp [Memory.insert, Memory.read, hlt, hk, ih hr]

theorem Memory.read_insert_ne (m : Memory) {a c : Nat} (b : Byte) (h : c ≠ a) : (m.insert a b).read c = m.read c := by
  induction m with
  | nil => simp [Memory.insert, Memory.read, Ne.symm h]
  | cons e rest ih =>
    obtain ⟨k, d⟩ := e
    by_cases hlt : a < k
    · simp [Memory.insert, Memory.read, hlt, Ne.symm h]
    · simp [Memory.insert, Memory.read, hlt, ih]

/-- A read after a write to the same address gives the byte written. -/
@[simp] theorem Memory.read_write_same (m : Memory) (a : Nat) (b : Byte) : (m.write a b).read a = b := by
  by_cases h : b = Memory.unlisted
  · simp [Memory.write, h, Memory.read_erase_same]
  · simp [Memory.write, h, Memory.read_insert_same _ a b (Memory.erase_free m a)]

/-- A write leaves every other address alone. -/
theorem Memory.read_write_ne (m : Memory) {a c : Nat} (b : Byte) (h : c ≠ a) : (m.write a b).read c = m.read c := by
  by_cases hb : b = Memory.unlisted
  · simp [Memory.write, hb, Memory.read_erase_ne m h]
  · simp [Memory.write, hb, Memory.read_insert_ne _ b h, Memory.read_erase_ne m h]

/-- Reading any address after a write. -/
theorem Memory.read_write (m : Memory) (a c : Nat) (b : Byte) :
    (m.write a b).read c = if c = a then b else m.read c := by
  by_cases h : c = a
  · subst h; simp
  · simp [h, Memory.read_write_ne m b h]

/-! ## The canonical form -/

theorem Memory.wfFrom_mono (m : Memory) {lo lo' : Nat} (h : lo' ≤ lo) (hm : m.wfFrom lo = true) :
    m.wfFrom lo' = true := by
  cases m with
  | nil => rfl
  | cons e rest =>
    obtain ⟨k, b⟩ := e
    simp only [Memory.wfFrom, Bool.and_eq_true, decide_eq_true_eq] at hm ⊢
    exact ⟨⟨⟨by omega, hm.1.1.2⟩, hm.1.2⟩, hm.2⟩

theorem Memory.wfFrom_erase (m : Memory) (a lo : Nat) (hm : m.wfFrom lo = true) : (m.erase a).wfFrom lo = true := by
  induction m generalizing lo with
  | nil => rfl
  | cons e rest ih =>
    obtain ⟨k, b⟩ := e
    simp only [Memory.wfFrom, Bool.and_eq_true, decide_eq_true_eq] at hm
    by_cases h : k = a
    · simp only [Memory.erase, h, if_true]
      exact ih lo (Memory.wfFrom_mono rest (by omega) hm.2)
    · simp only [Memory.erase, h, if_false, Memory.wfFrom, Bool.and_eq_true, decide_eq_true_eq]
      exact ⟨hm.1, ih (k + 1) hm.2⟩

theorem Memory.wfFrom_insert (m : Memory) (a lo : Nat) (b : Byte) (hm : m.wfFrom lo = true) (hf : m.Free a)
    (hlo : lo ≤ a) (ha : a < 2 ^ 32) (hb : b ≠ Memory.unlisted) : (m.insert a b).wfFrom lo = true := by
  induction m generalizing lo with
  | nil => simpa [Memory.insert, Memory.wfFrom, hlo, hb] using ha
  | cons e rest ih =>
    obtain ⟨k, c⟩ := e
    have hk : k ≠ a := hf (k, c) (by simp)
    have hr : Memory.Free rest a := fun e he => hf e (by simp [he])
    simp only [Memory.wfFrom, Bool.and_eq_true, decide_eq_true_eq] at hm
    by_cases hlt : a < k
    · simp only [Memory.insert, hlt, if_true, Memory.wfFrom, Bool.and_eq_true, decide_eq_true_eq]
      exact ⟨⟨⟨hlo, ha⟩, hb⟩, ⟨⟨by omega, hm.1.1.2⟩, hm.1.2⟩, hm.2⟩
    · simp only [Memory.insert, hlt, if_false, Memory.wfFrom, Bool.and_eq_true, decide_eq_true_eq]
      exact ⟨hm.1, ih (k + 1) hm.2 hr (by omega)⟩

/-- A write below 2^32 keeps the canonical form. -/
theorem Memory.wf_write (m : Memory) (a : Nat) (b : Byte) (hm : m.wf = true) (ha : a < 2 ^ 32) :
    (m.write a b).wf = true := by
  by_cases hb : b = Memory.unlisted
  · simp only [Memory.write, hb, if_true]
    exact Memory.wfFrom_erase m a 0 hm
  · simp only [Memory.write, hb, if_false]
    exact Memory.wfFrom_insert _ a 0 b (Memory.wfFrom_erase m a 0 hm) (Memory.erase_free m a) (by omega) ha hb

/-- An aligned store of any width keeps the canonical form. -/
theorem Memory.wf_writeWidth (m : Memory) (w : Width) (a : Word) (v : Word) (hm : m.wf = true)
    (ha : a.toNat % widthBytes w = 0) : (m.writeWidth w a.toNat v).wf = true := by
  have := a.isLt
  cases w <;> simp only [widthBytes] at ha <;> simp only [Memory.writeWidth, Memory.write16, Memory.write32]
  · exact Memory.wf_write _ _ _ hm (by omega)
  · exact Memory.wf_write _ _ _ (Memory.wf_write _ _ _ hm (by omega)) (by omega)
  · exact Memory.wf_write _ _ _ (Memory.wf_write _ _ _ (Memory.wf_write _ _ _ (Memory.wf_write _ _ _ hm (by omega))
      (by omega)) (by omega)) (by omega)

/-- What other bus masters write keeps the canonical form. -/
theorem Memory.wf_writeCells (m : Memory) (cs : List Host.Cell) (hm : m.wf = true) : (m.writeCells cs).wf = true := by
  induction cs generalizing m with
  | nil => exact hm
  | cons c rest ih => exact ih _ (Memory.wf_write m _ _ hm (Nat.mod_lt _ (by decide)))

/-! ## Words and longwords -/

/-- A store leaves every address outside its bytes alone. -/
theorem Memory.read_writeWidth_outside (m : Memory) (w : Width) (a c : Nat) (v : Word)
    (h : c < a ∨ a + widthBytes w ≤ c) : (m.writeWidth w a v).read c = m.read c := by
  cases w <;> simp only [widthBytes] at h <;>
    simp only [Memory.writeWidth, Memory.write16, Memory.write32, Memory.read_write] <;>
    (repeat rw [if_neg (by omega)])

/-- A longword read where one was just written is the value written (rule R61). -/
theorem Memory.read32_write32 (m : Memory) (a : Nat) (v : Word) : (m.write32 a v).read32 a = v := by
  simp only [Memory.read32, Memory.write32, Memory.read_write]
  apply BitVec.eq_of_getLsbD_eq
  intro i hi
  simp
  grind

/-- A word read where one was just written is the value written (rule R61). -/
theorem Memory.read16_write16 (m : Memory) (a : Nat) (v : Half) : (m.write16 a v).read16 a = v := by
  simp only [Memory.read16, Memory.write16, Memory.read_write]
  apply BitVec.eq_of_getLsbD_eq
  intro i hi
  simp
  grind

/-- A longword as a number (rule R61): the byte at the lowest address counts most. -/
theorem Memory.read32_toNat (m : Memory) (a : Nat) : (m.read32 a).toNat =
    (m.read a).toNat * 2 ^ 24 + (m.read (a + 1)).toNat * 2 ^ 16 + (m.read (a + 2)).toNat * 2 ^ 8
      + (m.read (a + 3)).toNat := by
  have h1 := (m.read (a + 1)).isLt
  have h2 := (m.read (a + 2)).isLt
  have h3 := (m.read (a + 3)).isLt
  simp only [Memory.read32, BitVec.toNat_append]
  rw [← Nat.shiftLeft_add_eq_or_of_lt h1, ← Nat.shiftLeft_add_eq_or_of_lt h2, ← Nat.shiftLeft_add_eq_or_of_lt h3]
  simp only [Nat.shiftLeft_eq]
  omega

/-- A word as a number (rule R61). -/
theorem Memory.read16_toNat (m : Memory) (a : Nat) :
    (m.read16 a).toNat = (m.read a).toNat * 2 ^ 8 + (m.read (a + 1)).toNat := by
  have h1 := (m.read (a + 1)).isLt
  simp only [Memory.read16, BitVec.toNat_append]
  rw [← Nat.shiftLeft_add_eq_or_of_lt h1, Nat.shiftLeft_eq]

end Sys2Proof.Machine
end

