-- ==== Sys2Proof/Laws/State.lean ====
section
/-! SUPPORT. One lemma per field of the state and per update of it, so that no proof unfolds a record update. -/

namespace Sys2Proof.Machine

open Sys2Proof.Config

/-! ## `State.setReg` -/

@[simp] theorem State.regs_setReg (s : State) (n : Reg) (v : Word) : (s.setReg n v).regs = s.regs.set n.val v := rfl
@[simp] theorem State.sr_setReg (s : State) (n : Reg) (v : Word) : (s.setReg n v).sr = s.sr := rfl
@[simp] theorem State.gbr_setReg (s : State) (n : Reg) (v : Word) : (s.setReg n v).gbr = s.gbr := rfl
@[simp] theorem State.vbr_setReg (s : State) (n : Reg) (v : Word) : (s.setReg n v).vbr = s.vbr := rfl
@[simp] theorem State.mach_setReg (s : State) (n : Reg) (v : Word) : (s.setReg n v).mach = s.mach := rfl
@[simp] theorem State.macl_setReg (s : State) (n : Reg) (v : Word) : (s.setReg n v).macl = s.macl := rfl
@[simp] theorem State.pr_setReg (s : State) (n : Reg) (v : Word) : (s.setReg n v).pr = s.pr := rfl
@[simp] theorem State.pc_setReg (s : State) (n : Reg) (v : Word) : (s.setReg n v).pc = s.pc := rfl
@[simp] theorem State.frs_setReg (s : State) (n : Reg) (v : Word) : (s.setReg n v).frs = s.frs := rfl
@[simp] theorem State.fpul_setReg (s : State) (n : Reg) (v : Word) : (s.setReg n v).fpul = s.fpul := rfl
@[simp] theorem State.fpscr_setReg (s : State) (n : Reg) (v : Word) : (s.setReg n v).fpscr = s.fpscr := rfl
@[simp] theorem State.slot_setReg (s : State) (n : Reg) (v : Word) : (s.setReg n v).slot = s.slot := rfl
@[simp] theorem State.intInhibit_setReg (s : State) (n : Reg) (v : Word) :
    (s.setReg n v).intInhibit = s.intInhibit := rfl
@[simp] theorem State.fpuPending_setReg (s : State) (n : Reg) (v : Word) :
    (s.setReg n v).fpuPending = s.fpuPending := rfl
@[simp] theorem State.mode_setReg (s : State) (n : Reg) (v : Word) : (s.setReg n v).mode = s.mode := rfl
@[simp] theorem State.fpuStopped_setReg (s : State) (n : Reg) (v : Word) :
    (s.setReg n v).fpuStopped = s.fpuStopped := rfl
@[simp] theorem State.irq_setReg (s : State) (n : Reg) (v : Word) : (s.setReg n v).irq = s.irq := rfl
@[simp] theorem State.busLock_setReg (s : State) (n : Reg) (v : Word) : (s.setReg n v).busLock = s.busLock := rfl
@[simp] theorem State.mem_setReg (s : State) (n : Reg) (v : Word) : (s.setReg n v).mem = s.mem := rfl
@[simp] theorem State.platform_setReg (s : State) (n : Reg) (v : Word) : (s.setReg n v).platform = s.platform := rfl
@[simp] theorem State.inputs_setReg (s : State) (n : Reg) (v : Word) : (s.setReg n v).inputs = s.inputs := rfl
@[simp] theorem State.bus_setReg (s : State) (n : Reg) (v : Word) : (s.setReg n v).bus = s.bus := rfl
@[simp] theorem State.recent_setReg (s : State) (n : Reg) (v : Word) : (s.setReg n v).recent = s.recent := rfl
@[simp] theorem State.free_setReg (s : State) (n : Reg) (v : Word) : (s.setReg n v).free = s.free := rfl

/-! ## `State.setFr` -/

@[simp] theorem State.regs_setFr (s : State) (n : FReg) (v : Word) : (s.setFr n v).regs = s.regs := rfl
@[simp] theorem State.sr_setFr (s : State) (n : FReg) (v : Word) : (s.setFr n v).sr = s.sr := rfl
@[simp] theorem State.gbr_setFr (s : State) (n : FReg) (v : Word) : (s.setFr n v).gbr = s.gbr := rfl
@[simp] theorem State.vbr_setFr (s : State) (n : FReg) (v : Word) : (s.setFr n v).vbr = s.vbr := rfl
@[simp] theorem State.mach_setFr (s : State) (n : FReg) (v : Word) : (s.setFr n v).mach = s.mach := rfl
@[simp] theorem State.macl_setFr (s : State) (n : FReg) (v : Word) : (s.setFr n v).macl = s.macl := rfl
@[simp] theorem State.pr_setFr (s : State) (n : FReg) (v : Word) : (s.setFr n v).pr = s.pr := rfl
@[simp] theorem State.pc_setFr (s : State) (n : FReg) (v : Word) : (s.setFr n v).pc = s.pc := rfl
@[simp] theorem State.frs_setFr (s : State) (n : FReg) (v : Word) : (s.setFr n v).frs = s.frs.set n.val v := rfl
@[simp] theorem State.fpul_setFr (s : State) (n : FReg) (v : Word) : (s.setFr n v).fpul = s.fpul := rfl
@[simp] theorem State.fpscr_setFr (s : State) (n : FReg) (v : Word) : (s.setFr n v).fpscr = s.fpscr := rfl
@[simp] theorem State.slot_setFr (s : State) (n : FReg) (v : Word) : (s.setFr n v).slot = s.slot := rfl
@[simp] theorem State.intInhibit_setFr (s : State) (n : FReg) (v : Word) :
    (s.setFr n v).intInhibit = s.intInhibit := rfl
@[simp] theorem State.fpuPending_setFr (s : State) (n : FReg) (v : Word) :
    (s.setFr n v).fpuPending = s.fpuPending := rfl
@[simp] theorem State.mode_setFr (s : State) (n : FReg) (v : Word) : (s.setFr n v).mode = s.mode := rfl
@[simp] theorem State.fpuStopped_setFr (s : State) (n : FReg) (v : Word) :
    (s.setFr n v).fpuStopped = s.fpuStopped := rfl
@[simp] theorem State.irq_setFr (s : State) (n : FReg) (v : Word) : (s.setFr n v).irq = s.irq := rfl
@[simp] theorem State.busLock_setFr (s : State) (n : FReg) (v : Word) : (s.setFr n v).busLock = s.busLock := rfl
@[simp] theorem State.mem_setFr (s : State) (n : FReg) (v : Word) : (s.setFr n v).mem = s.mem := rfl
@[simp] theorem State.platform_setFr (s : State) (n : FReg) (v : Word) : (s.setFr n v).platform = s.platform := rfl
@[simp] theorem State.inputs_setFr (s : State) (n : FReg) (v : Word) : (s.setFr n v).inputs = s.inputs := rfl
@[simp] theorem State.bus_setFr (s : State) (n : FReg) (v : Word) : (s.setFr n v).bus = s.bus := rfl
@[simp] theorem State.recent_setFr (s : State) (n : FReg) (v : Word) : (s.setFr n v).recent = s.recent := rfl
@[simp] theorem State.free_setFr (s : State) (n : FReg) (v : Word) : (s.setFr n v).free = s.free := rfl

/-! ## `State.setT` -/

@[simp] theorem State.regs_setT (s : State) (b : Bool) : (s.setT b).regs = s.regs := rfl
@[simp] theorem State.sr_setT (s : State) (b : Bool) : (s.setT b).sr = { s.sr with t := b } := rfl
@[simp] theorem State.gbr_setT (s : State) (b : Bool) : (s.setT b).gbr = s.gbr := rfl
@[simp] theorem State.vbr_setT (s : State) (b : Bool) : (s.setT b).vbr = s.vbr := rfl
@[simp] theorem State.mach_setT (s : State) (b : Bool) : (s.setT b).mach = s.mach := rfl
@[simp] theorem State.macl_setT (s : State) (b : Bool) : (s.setT b).macl = s.macl := rfl
@[simp] theorem State.pr_setT (s : State) (b : Bool) : (s.setT b).pr = s.pr := rfl
@[simp] theorem State.pc_setT (s : State) (b : Bool) : (s.setT b).pc = s.pc := rfl
@[simp] theorem State.frs_setT (s : State) (b : Bool) : (s.setT b).frs = s.frs := rfl
@[simp] theorem State.fpul_setT (s : State) (b : Bool) : (s.setT b).fpul = s.fpul := rfl
@[simp] theorem State.fpscr_setT (s : State) (b : Bool) : (s.setT b).fpscr = s.fpscr := rfl
@[simp] theorem State.slot_setT (s : State) (b : Bool) : (s.setT b).slot = s.slot := rfl
@[simp] theorem State.intInhibit_setT (s : State) (b : Bool) : (s.setT b).intInhibit = s.intInhibit := rfl
@[simp] theorem State.fpuPending_setT (s : State) (b : Bool) : (s.setT b).fpuPending = s.fpuPending := rfl
@[simp] theorem State.mode_setT (s : State) (b : Bool) : (s.setT b).mode = s.mode := rfl
@[simp] theorem State.fpuStopped_setT (s : State) (b : Bool) : (s.setT b).fpuStopped = s.fpuStopped := rfl
@[simp] theorem State.irq_setT (s : State) (b : Bool) : (s.setT b).irq = s.irq := rfl
@[simp] theorem State.busLock_setT (s : State) (b : Bool) : (s.setT b).busLock = s.busLock := rfl
@[simp] theorem State.mem_setT (s : State) (b : Bool) : (s.setT b).mem = s.mem := rfl
@[simp] theorem State.platform_setT (s : State) (b : Bool) : (s.setT b).platform = s.platform := rfl
@[simp] theorem State.inputs_setT (s : State) (b : Bool) : (s.setT b).inputs = s.inputs := rfl
@[simp] theorem State.bus_setT (s : State) (b : Bool) : (s.setT b).bus = s.bus := rfl
@[simp] theorem State.recent_setT (s : State) (b : Bool) : (s.setT b).recent = s.recent := rfl
@[simp] theorem State.free_setT (s : State) (b : Bool) : (s.setT b).free = s.free := rfl

/-! ## `State.setMac` -/

@[simp] theorem State.regs_setMac (s : State) (v : BitVec 64) : (s.setMac v).regs = s.regs := rfl
@[simp] theorem State.sr_setMac (s : State) (v : BitVec 64) : (s.setMac v).sr = s.sr := rfl
@[simp] theorem State.gbr_setMac (s : State) (v : BitVec 64) : (s.setMac v).gbr = s.gbr := rfl
@[simp] theorem State.vbr_setMac (s : State) (v : BitVec 64) : (s.setMac v).vbr = s.vbr := rfl
@[simp] theorem State.mach_setMac (s : State) (v : BitVec 64) : (s.setMac v).mach = v.extractLsb' 32 32 := rfl
@[simp] theorem State.macl_setMac (s : State) (v : BitVec 64) : (s.setMac v).macl = v.extractLsb' 0 32 := rfl
@[simp] theorem State.pr_setMac (s : State) (v : BitVec 64) : (s.setMac v).pr = s.pr := rfl
@[simp] theorem State.pc_setMac (s : State) (v : BitVec 64) : (s.setMac v).pc = s.pc := rfl
@[simp] theorem State.frs_setMac (s : State) (v : BitVec 64) : (s.setMac v).frs = s.frs := rfl
@[simp] theorem State.fpul_setMac (s : State) (v : BitVec 64) : (s.setMac v).fpul = s.fpul := rfl
@[simp] theorem State.fpscr_setMac (s : State) (v : BitVec 64) : (s.setMac v).fpscr = s.fpscr := rfl
@[simp] theorem State.slot_setMac (s : State) (v : BitVec 64) : (s.setMac v).slot = s.slot := rfl
@[simp] theorem State.intInhibit_setMac (s : State) (v : BitVec 64) : (s.setMac v).intInhibit = s.intInhibit := rfl
@[simp] theorem State.fpuPending_setMac (s : State) (v : BitVec 64) : (s.setMac v).fpuPending = s.fpuPending := rfl
@[simp] theorem State.mode_setMac (s : State) (v : BitVec 64) : (s.setMac v).mode = s.mode := rfl
@[simp] theorem State.fpuStopped_setMac (s : State) (v : BitVec 64) : (s.setMac v).fpuStopped = s.fpuStopped := rfl
@[simp] theorem State.irq_setMac (s : State) (v : BitVec 64) : (s.setMac v).irq = s.irq := rfl
@[simp] theorem State.busLock_setMac (s : State) (v : BitVec 64) : (s.setMac v).busLock = s.busLock := rfl
@[simp] theorem State.mem_setMac (s : State) (v : BitVec 64) : (s.setMac v).mem = s.mem := rfl
@[simp] theorem State.platform_setMac (s : State) (v : BitVec 64) : (s.setMac v).platform = s.platform := rfl
@[simp] theorem State.inputs_setMac (s : State) (v : BitVec 64) : (s.setMac v).inputs = s.inputs := rfl
@[simp] theorem State.bus_setMac (s : State) (v : BitVec 64) : (s.setMac v).bus = s.bus := rfl
@[simp] theorem State.recent_setMac (s : State) (v : BitVec 64) : (s.setMac v).recent = s.recent := rfl
@[simp] theorem State.free_setMac (s : State) (v : BitVec 64) : (s.setMac v).free = s.free := rfl

/-! ## `State.poke` -/

@[simp] theorem State.regs_poke (s : State) (w : Width) (a v : Word) : (s.poke w a v).regs = s.regs := rfl
@[simp] theorem State.sr_poke (s : State) (w : Width) (a v : Word) : (s.poke w a v).sr = s.sr := rfl
@[simp] theorem State.gbr_poke (s : State) (w : Width) (a v : Word) : (s.poke w a v).gbr = s.gbr := rfl
@[simp] theorem State.vbr_poke (s : State) (w : Width) (a v : Word) : (s.poke w a v).vbr = s.vbr := rfl
@[simp] theorem State.mach_poke (s : State) (w : Width) (a v : Word) : (s.poke w a v).mach = s.mach := rfl
@[simp] theorem State.macl_poke (s : State) (w : Width) (a v : Word) : (s.poke w a v).macl = s.macl := rfl
@[simp] theorem State.pr_poke (s : State) (w : Width) (a v : Word) : (s.poke w a v).pr = s.pr := rfl
@[simp] theorem State.pc_poke (s : State) (w : Width) (a v : Word) : (s.poke w a v).pc = s.pc := rfl
@[simp] theorem State.frs_poke (s : State) (w : Width) (a v : Word) : (s.poke w a v).frs = s.frs := rfl
@[simp] theorem State.fpul_poke (s : State) (w : Width) (a v : Word) : (s.poke w a v).fpul = s.fpul := rfl
@[simp] theorem State.fpscr_poke (s : State) (w : Width) (a v : Word) : (s.poke w a v).fpscr = s.fpscr := rfl
@[simp] theorem State.slot_poke (s : State) (w : Width) (a v : Word) : (s.poke w a v).slot = s.slot := rfl
@[simp] theorem State.intInhibit_poke (s : State) (w : Width) (a v : Word) :
    (s.poke w a v).intInhibit = s.intInhibit := rfl
@[simp] theorem State.fpuPending_poke (s : State) (w : Width) (a v : Word) :
    (s.poke w a v).fpuPending = s.fpuPending := rfl
@[simp] theorem State.mode_poke (s : State) (w : Width) (a v : Word) : (s.poke w a v).mode = s.mode := rfl
@[simp] theorem State.fpuStopped_poke (s : State) (w : Width) (a v : Word) :
    (s.poke w a v).fpuStopped = s.fpuStopped := rfl
@[simp] theorem State.irq_poke (s : State) (w : Width) (a v : Word) : (s.poke w a v).irq = s.irq := rfl
@[simp] theorem State.busLock_poke (s : State) (w : Width) (a v : Word) : (s.poke w a v).busLock = s.busLock := rfl
@[simp] theorem State.mem_poke (s : State) (w : Width) (a v : Word) :
    (s.poke w a v).mem = s.mem.writeWidth w a.toNat v := rfl
@[simp] theorem State.platform_poke (s : State) (w : Width) (a v : Word) : (s.poke w a v).platform = s.platform := rfl
@[simp] theorem State.inputs_poke (s : State) (w : Width) (a v : Word) : (s.poke w a v).inputs = s.inputs := rfl
@[simp] theorem State.bus_poke (s : State) (w : Width) (a v : Word) : (s.poke w a v).bus = s.bus := rfl
@[simp] theorem State.recent_poke (s : State) (w : Width) (a v : Word) :
    (s.poke w a v).recent = { addr := a.toNat, old := s.mem.bytes a.toNat (widthBytes w), left := 4 } :: s.recent := rfl
@[simp] theorem State.free_poke (s : State) (w : Width) (a v : Word) : (s.poke w a v).free = s.free := rfl

/-! ## `State.busTurn` -/

@[simp] theorem State.regs_busTurn (s : State) : s.busTurn.regs = s.regs := rfl
@[simp] theorem State.sr_busTurn (s : State) : s.busTurn.sr = s.sr := rfl
@[simp] theorem State.gbr_busTurn (s : State) : s.busTurn.gbr = s.gbr := rfl
@[simp] theorem State.vbr_busTurn (s : State) : s.busTurn.vbr = s.vbr := rfl
@[simp] theorem State.mach_busTurn (s : State) : s.busTurn.mach = s.mach := rfl
@[simp] theorem State.macl_busTurn (s : State) : s.busTurn.macl = s.macl := rfl
@[simp] theorem State.pr_busTurn (s : State) : s.busTurn.pr = s.pr := rfl
@[simp] theorem State.pc_busTurn (s : State) : s.busTurn.pc = s.pc := rfl
@[simp] theorem State.frs_busTurn (s : State) : s.busTurn.frs = s.frs := rfl
@[simp] theorem State.fpul_busTurn (s : State) : s.busTurn.fpul = s.fpul := rfl
@[simp] theorem State.fpscr_busTurn (s : State) : s.busTurn.fpscr = s.fpscr := rfl
@[simp] theorem State.slot_busTurn (s : State) : s.busTurn.slot = s.slot := rfl
@[simp] theorem State.intInhibit_busTurn (s : State) : s.busTurn.intInhibit = s.intInhibit := rfl
@[simp] theorem State.fpuPending_busTurn (s : State) : s.busTurn.fpuPending = s.fpuPending := rfl
@[simp] theorem State.mode_busTurn (s : State) : s.busTurn.mode = s.mode := rfl
@[simp] theorem State.fpuStopped_busTurn (s : State) : s.busTurn.fpuStopped = s.fpuStopped := rfl
@[simp] theorem State.irq_busTurn (s : State) : s.busTurn.irq = s.irq := rfl
@[simp] theorem State.busLock_busTurn (s : State) : s.busTurn.busLock = s.busLock := rfl
@[simp] theorem State.mem_busTurn (s : State) :
    s.busTurn.mem = if s.busLock then s.mem else s.mem.writeCells (s.bus.headD []) := rfl
@[simp] theorem State.platform_busTurn (s : State) : s.busTurn.platform = s.platform := rfl
@[simp] theorem State.inputs_busTurn (s : State) : s.busTurn.inputs = s.inputs := rfl
@[simp] theorem State.bus_busTurn (s : State) : s.busTurn.bus = if s.busLock then s.bus else s.bus.tail := rfl
@[simp] theorem State.recent_busTurn (s : State) : s.busTurn.recent = s.recent := rfl
@[simp] theorem State.free_busTurn (s : State) : s.busTurn.free = s.free := rfl

/-! ## `State.advance` -/

@[simp] theorem State.regs_advance (s : State) : s.advance.regs = s.regs := rfl
@[simp] theorem State.sr_advance (s : State) : s.advance.sr = s.sr := rfl
@[simp] theorem State.gbr_advance (s : State) : s.advance.gbr = s.gbr := rfl
@[simp] theorem State.vbr_advance (s : State) : s.advance.vbr = s.vbr := rfl
@[simp] theorem State.mach_advance (s : State) : s.advance.mach = s.mach := rfl
@[simp] theorem State.macl_advance (s : State) : s.advance.macl = s.macl := rfl
@[simp] theorem State.pr_advance (s : State) : s.advance.pr = s.pr := rfl
@[simp] theorem State.pc_advance (s : State) : s.advance.pc = s.nextPc := rfl
@[simp] theorem State.frs_advance (s : State) : s.advance.frs = s.frs := rfl
@[simp] theorem State.fpul_advance (s : State) : s.advance.fpul = s.fpul := rfl
@[simp] theorem State.fpscr_advance (s : State) : s.advance.fpscr = s.fpscr := rfl
@[simp] theorem State.slot_advance (s : State) : s.advance.slot = none := rfl
@[simp] theorem State.intInhibit_advance (s : State) : s.advance.intInhibit = false := rfl
@[simp] theorem State.fpuPending_advance (s : State) : s.advance.fpuPending = s.fpuPending := rfl
@[simp] theorem State.mode_advance (s : State) : s.advance.mode = s.mode := rfl
@[simp] theorem State.fpuStopped_advance (s : State) : s.advance.fpuStopped = s.fpuStopped := rfl
@[simp] theorem State.irq_advance (s : State) : s.advance.irq = s.irq := rfl
@[simp] theorem State.busLock_advance (s : State) : s.advance.busLock = s.busLock := rfl
@[simp] theorem State.mem_advance (s : State) : s.advance.mem = s.mem := rfl
@[simp] theorem State.platform_advance (s : State) : s.advance.platform = s.platform := rfl
@[simp] theorem State.inputs_advance (s : State) : s.advance.inputs = s.inputs := rfl
@[simp] theorem State.bus_advance (s : State) : s.advance.bus = s.bus := rfl
@[simp] theorem State.recent_advance (s : State) : s.advance.recent = s.recent := rfl
@[simp] theorem State.free_advance (s : State) : s.advance.free = s.free := rfl

/-! ## `State.afterFetch` -/

@[simp] theorem State.regs_afterFetch (s : State) : s.afterFetch.regs = s.regs := rfl
@[simp] theorem State.sr_afterFetch (s : State) : s.afterFetch.sr = s.sr := rfl
@[simp] theorem State.gbr_afterFetch (s : State) : s.afterFetch.gbr = s.gbr := rfl
@[simp] theorem State.vbr_afterFetch (s : State) : s.afterFetch.vbr = s.vbr := rfl
@[simp] theorem State.mach_afterFetch (s : State) : s.afterFetch.mach = s.mach := rfl
@[simp] theorem State.macl_afterFetch (s : State) : s.afterFetch.macl = s.macl := rfl
@[simp] theorem State.pr_afterFetch (s : State) : s.afterFetch.pr = s.pr := rfl
@[simp] theorem State.pc_afterFetch (s : State) : s.afterFetch.pc = s.pc := rfl
@[simp] theorem State.frs_afterFetch (s : State) : s.afterFetch.frs = s.frs := rfl
@[simp] theorem State.fpul_afterFetch (s : State) : s.afterFetch.fpul = s.fpul := rfl
@[simp] theorem State.fpscr_afterFetch (s : State) : s.afterFetch.fpscr = s.fpscr := rfl
@[simp] theorem State.slot_afterFetch (s : State) : s.afterFetch.slot = s.slot := rfl
@[simp] theorem State.intInhibit_afterFetch (s : State) : s.afterFetch.intInhibit = s.intInhibit := rfl
@[simp] theorem State.fpuPending_afterFetch (s : State) : s.afterFetch.fpuPending = s.fpuPending.map (· - 1) := rfl
@[simp] theorem State.mode_afterFetch (s : State) : s.afterFetch.mode = s.mode := rfl
@[simp] theorem State.fpuStopped_afterFetch (s : State) : s.afterFetch.fpuStopped = s.fpuStopped := rfl
@[simp] theorem State.irq_afterFetch (s : State) : s.afterFetch.irq = s.irq := rfl
@[simp] theorem State.busLock_afterFetch (s : State) : s.afterFetch.busLock = s.busLock := rfl
@[simp] theorem State.mem_afterFetch (s : State) : s.afterFetch.mem = s.mem := rfl
@[simp] theorem State.platform_afterFetch (s : State) : s.afterFetch.platform = s.platform := rfl
@[simp] theorem State.inputs_afterFetch (s : State) : s.afterFetch.inputs = s.inputs := rfl
@[simp] theorem State.bus_afterFetch (s : State) : s.afterFetch.bus = s.bus := rfl
@[simp] theorem State.recent_afterFetch (s : State) : s.afterFetch.recent = ageStores s.recent := rfl
@[simp] theorem State.free_afterFetch (s : State) : s.afterFetch.free = s.free + s.recent.length := rfl

/-! ## Registers -/

@[simp] theorem State.reg_setReg_self (s : State) (n : Reg) (v : Word) : (s.setReg n v).reg n = v := by
  simp [State.reg]

theorem State.reg_setReg_ne (s : State) (m n : Reg) (v : Word) (h : n ≠ m) : (s.setReg n v).reg m = s.reg m := by
  have h' : n.val ≠ m.val := fun e => h (Fin.ext e)
  simp [State.reg, Vector.getElem_set_ne, h']

/-- Reading any register after writing one. -/
theorem State.reg_setReg (s : State) (m n : Reg) (v : Word) :
    (s.setReg n v).reg m = if n = m then v else s.reg m := by
  by_cases h : n = m
  · subst h; simp
  · simp [h, State.reg_setReg_ne s m n v h]

@[simp] theorem State.fr_setFr_self (s : State) (n : FReg) (v : Word) : (s.setFr n v).fr n = v := by
  simp [State.fr]

theorem State.fr_setFr_ne (s : State) (m n : FReg) (v : Word) (h : n ≠ m) : (s.setFr n v).fr m = s.fr m := by
  have h' : n.val ≠ m.val := fun e => h (Fin.ext e)
  simp [State.fr, Vector.getElem_set_ne, h']

@[simp] theorem State.reg_setT (s : State) (n : Reg) (b : Bool) : (s.setT b).reg n = s.reg n := rfl
@[simp] theorem State.reg_poke (s : State) (n : Reg) (w : Width) (a v : Word) : (s.poke w a v).reg n = s.reg n := rfl
@[simp] theorem State.reg_setFr (s : State) (n : Reg) (m : FReg) (v : Word) : (s.setFr m v).reg n = s.reg n := rfl
@[simp] theorem State.fr_setReg (s : State) (n : FReg) (m : Reg) (v : Word) : (s.setReg m v).fr n = s.fr n := rfl
@[simp] theorem State.reg_busTurn (s : State) (n : Reg) : s.busTurn.reg n = s.reg n := rfl
@[simp] theorem State.fr_busTurn (s : State) (n : FReg) : s.busTurn.fr n = s.fr n := rfl
@[simp] theorem State.reg_afterFetch (s : State) (n : Reg) : s.afterFetch.reg n = s.reg n := rfl

/-! ## The turn of other bus masters -/

/-- With nothing left for other bus masters to write, their turn changes nothing. -/
theorem State.busTurn_of_bus_nil (s : State) (h : s.bus = []) : s.busTurn = s := by
  cases s
  simp_all [State.busTurn, Memory.writeCells]

/-- While the bus is locked, the other masters have no turn (rule R73). -/
theorem State.busTurn_of_busLock (s : State) (h : s.busLock = true) : s.busTurn = s := by
  cases s
  simp_all [State.busTurn]

/-! ## Where execution goes on -/

@[simp] theorem State.nextPc_busTurn (s : State) : s.busTurn.nextPc = s.nextPc := rfl


theorem State.nextPc_of_slot (s : State) (t : Word) (h : s.slot = some t) : s.nextPc = t := by
  simp [State.nextPc, h]

theorem State.nextPc_of_no_slot (s : State) (h : s.slot = none) : s.nextPc = s.pc + 2#32 := by
  simp [State.nextPc, h]

theorem State.outsideSlot_of_slot (s : State) (t : Word) (r : Result) (h : s.slot = some t) :
    s.outsideSlot r = s.raiseIllegal := by
  simp [State.outsideSlot, h]

theorem State.outsideSlot_of_no_slot (s : State) (r : Result) (h : s.slot = none) : s.outsideSlot r = r := by
  simp [State.outsideSlot, h]

theorem State.withFpu_of_stopped (s : State) (r : Result) (h : s.fpuStopped = true) : s.withFpu r = s.raiseIllegal := by
  simp [State.withFpu, h]

theorem State.withFpu_of_pending (s : State) (r : Result) (k : Nat) (h : s.fpuStopped = false)
    (hk : s.fpuPending = some k) : s.withFpu r = s.complete := by
  simp [State.withFpu, h, hk]

theorem State.withFpu_of_ready (s : State) (r : Result) (h : s.fpuStopped = false) (hk : s.fpuPending = none) :
    s.withFpu r = r := by
  simp [State.withFpu, h, hk]

end Sys2Proof.Machine
end

