-- ==== Sys2Proof/Laws/Ops.lean ====
section
/-! SUPPORT. What the shared operations can do, once for each: provers cite these instead of unfolding them. -/

namespace Sys2Proof.Machine

open Sys2Proof.Config

/-! ## Accesses -/

theorem checkAccess_of_accessible (s : State) (k : AccessKind) (w : Width) (a : Word) (h : Accessible s k w a) :
    checkAccess s.platform.memMap k w a = .ok () := by
  simp [checkAccess, h.1, h.2]

/-- Only an aligned access passes. -/
theorem aligned_of_checkAccess (map : List Region) (k : AccessKind) (w : Width) (a : Word) (u : Unit)
    (h : checkAccess map k w a = .ok u) : a.toNat % widthBytes w = 0 := by
  by_contra hne
  simp [checkAccess, hne] at h

theorem checkAccess_misaligned (map : List Region) (k : AccessKind) (w : Width) (a : Word)
    (h : a.toNat % widthBytes w ≠ 0) : checkAccess map k w a = .addressError := by
  simp [checkAccess, h]

theorem State.load_of_accessible (s : State) (w : Width) (a : Word) (h : Accessible s .read w a) :
    s.load w a = .ok (s.busTurn, s.busTurn.mem.readWidth w a.toNat) := by
  simp [State.load, checkAccess_of_accessible s .read w a h]

theorem State.load_misaligned (s : State) (w : Width) (a : Word) (h : a.toNat % widthBytes w ≠ 0) :
    s.load w a = .addressError := by
  simp [State.load, checkAccess_misaligned _ _ w a h]

theorem State.store_of_accessible (s : State) (w : Width) (a v : Word) (h : Accessible s .write w a) :
    s.store w a v = .ok (s.busTurn.poke w a v) := by
  simp [State.store, checkAccess_of_accessible s .write w a h]

theorem State.store_misaligned (s : State) (w : Width) (a v : Word) (h : a.toNat % widthBytes w ≠ 0) :
    s.store w a v = .addressError := by
  simp [State.store, checkAccess_misaligned _ _ w a h]

/-- All a load can do: the address is aligned, the other bus masters had their turn, and memory is read after it. -/
theorem State.load_ok (s : State) (w : Width) (a : Word) (r : State × Word) (h : s.load w a = .ok r) :
    a.toNat % widthBytes w = 0 ∧ r = (s.busTurn, s.busTurn.mem.readWidth w a.toNat) := by
  unfold State.load at h
  split at h
  · rename_i u hc
    exact ⟨aligned_of_checkAccess _ _ _ _ u hc, by injection h with h; exact h.symm⟩
  all_goals contradiction

/-- All a store can do: the address is aligned, and the state is the one after the other bus masters' turn and the poke. -/
theorem State.store_ok (s s' : State) (w : Width) (a v : Word) (h : s.store w a v = .ok s') :
    a.toNat % widthBytes w = 0 ∧ s' = s.busTurn.poke w a v := by
  unfold State.store at h
  split at h
  · rename_i u hc
    exact ⟨aligned_of_checkAccess _ _ _ _ u hc, by injection h with h; exact h.symm⟩
  all_goals contradiction

theorem State.withLoad_of_accessible (s : State) (w : Width) (a : Word) (body : State → Word → Result)
    (h : Accessible s .read w a) :
    s.withLoad w a body = body s.busTurn (s.busTurn.mem.readWidth w a.toNat) := by
  simp [State.withLoad, State.load_of_accessible s w a h]

theorem State.withLoad_misaligned (s : State) (w : Width) (a : Word) (body : State → Word → Result)
    (h : a.toNat % widthBytes w ≠ 0) : s.withLoad w a body = s.raiseAddressError := by
  simp [State.withLoad, State.load_misaligned s w a h]

theorem State.withStore_of_accessible (s : State) (w : Width) (a v : Word) (body : State → Result)
    (h : Accessible s .write w a) : s.withStore w a v body = body (s.busTurn.poke w a v) := by
  simp [State.withStore, State.store_of_accessible s w a v h]

theorem State.withStore_misaligned (s : State) (w : Width) (a v : Word) (body : State → Result)
    (h : a.toNat % widthBytes w ≠ 0) : s.withStore w a v body = s.raiseAddressError := by
  simp [State.withStore, State.store_misaligned s w a v h]

/-- Every way a load can go. -/
theorem State.withLoad_cases (s s' : State) (w : Width) (a : Word) (body : State → Word → Result)
    (h : s.withLoad w a body = .next s') :
    (a.toNat % widthBytes w = 0 ∧ body s.busTurn (s.busTurn.mem.readWidth w a.toNat) = .next s')
      ∨ s.raiseAddressError = .next s' := by
  unfold State.withLoad at h
  split at h
  · rename_i s1 v hl
    obtain ⟨ha, hr⟩ := State.load_ok s w a _ hl
    obtain ⟨rfl, rfl⟩ := Prod.mk.inj hr
    exact .inl ⟨ha, h⟩
  · exact .inr h
  all_goals contradiction

/-- Every way a store can go. -/
theorem State.withStore_cases (s s' : State) (w : Width) (a v : Word) (body : State → Result)
    (h : s.withStore w a v body = .next s') :
    (a.toNat % widthBytes w = 0 ∧ body (s.busTurn.poke w a v) = .next s') ∨ s.raiseAddressError = .next s' := by
  unfold State.withStore at h
  split at h
  · rename_i s1 hs
    obtain ⟨ha, rfl⟩ := State.store_ok s s1 w a v hs
    exact .inl ⟨ha, h⟩
  · exact .inr h
  all_goals contradiction

/-! ## Taking an exception -/

/-- The state in which SR is stacked (rule R530 step 1). -/
def State.pushedSr (s : State) : State := s.busTurn.poke .long (s.reg 15 - 4#32) s.sr.toWord

/-- The state in which SR and the saved PC are stacked (rule R530 steps 1 and 2). -/
def State.pushedFrame (s : State) (spc : Word) : State := s.pushedSr.busTurn.poke .long (s.reg 15 - 8#32) spc

/-- All an entry can come to, as states: entered, with both words of the frame stored and PC from the vector table; or
stopped by an address error after none, one or both of the stores (rules R530, R534). -/
inductive EntryOutcome (s : State) (v : BitVec 8) (spc : Word) (mask : Option (BitVec 4)) : Entry → Prop where
  | entered (h4 : (s.reg 15 - 4#32).toNat % 4 = 0) (h8 : (s.reg 15 - 8#32).toNat % 4 = 0)
      (hv : (s.vectorAddr v).toNat % 4 = 0) :
      EntryOutcome s v spc mask (.entered
        { (s.pushedFrame spc).busTurn.setReg 15 (s.reg 15 - 8#32) with
          sr := s.sr.raiseMask mask
          pc := (s.pushedFrame spc).busTurn.mem.read32 (s.vectorAddr v).toNat
          slot := none
          intInhibit := false })
  | stoppedFirst : EntryOutcome s v spc mask (.addressError s)
  | stoppedSecond (h4 : (s.reg 15 - 4#32).toNat % 4 = 0) : EntryOutcome s v spc mask (.addressError s.pushedSr)
  | stoppedThird (h4 : (s.reg 15 - 4#32).toNat % 4 = 0) (h8 : (s.reg 15 - 8#32).toNat % 4 = 0) :
      EntryOutcome s v spc mask (.addressError (s.pushedFrame spc))
  | fault (f : Fault) : EntryOutcome s v spc mask (.fault f)
  | refused (r : Refusal) : EntryOutcome s v spc mask (.refused r)

theorem State.tryEnter_outcome (s : State) (v : BitVec 8) (spc : Word) (mask : Option (BitVec 4)) :
    EntryOutcome s v spc mask (s.tryEnter v spc mask) := by
  unfold State.tryEnter
  split
  · exact .stoppedFirst
  · exact .fault _
  · exact .refused _
  · rename_i s1 h1
    obtain ⟨h4, rfl⟩ := State.store_ok _ _ _ _ _ h1
    split
    · exact .stoppedSecond h4
    · exact .fault _
    · exact .refused _
    · rename_i s2 h2
      obtain ⟨h8, rfl⟩ := State.store_ok _ _ _ _ _ h2
      split
      · exact .stoppedThird h4 h8
      · exact .fault _
      · exact .refused _
      · rename_i s3 handler h3
        obtain ⟨hv, hr⟩ := State.load_ok _ _ _ _ h3
        obtain ⟨rfl, rfl⟩ := Prod.mk.inj hr
        exact .entered h4 h8 hv

/-- Where every access of an entry passes, it is entered (rule R530). -/
theorem State.tryEnter_of_accessible (s : State) (v : BitVec 8) (spc : Word) (mask : Option (BitVec 4))
    (h4 : Accessible s .write .long (s.reg 15 - 4#32)) (h8 : Accessible s .write .long (s.reg 15 - 8#32))
    (hv : Accessible s .read .long (s.vectorAddr v)) :
    s.tryEnter v spc mask = .entered
      { (s.pushedFrame spc).busTurn.setReg 15 (s.reg 15 - 8#32) with
        sr := s.sr.raiseMask mask
        pc := (s.pushedFrame spc).busTurn.mem.read32 (s.vectorAddr v).toNat
        slot := none
        intInhibit := false } := by
  have e4 := State.store_of_accessible s .long _ s.sr.toWord h4
  have e8 := State.store_of_accessible s.pushedSr .long (s.reg 15 - 8#32) spc h8
  have ev := State.load_of_accessible (s.pushedFrame spc) .long (s.vectorAddr v) hv
  simp only [State.tryEnter, e4]
  simp only [State.pushedSr] at e8
  rw [e8]
  simp only [State.pushedFrame, State.pushedSr] at ev
  simp only [ev]
  rfl

/-- What holds of the state of every outcome of an entry holds of every next state of taking an exception, if it survives a
second entry and the terminal state (rule R534). -/
theorem State.enterAddressError_cases (s s' : State) (spc : Word) (h : s.enterAddressError spc = .next s') :
    s.tryEnter s.platform.vec.addressError spc none = .entered s' ∨
      ∃ s1, s.tryEnter s.platform.vec.addressError spc none = .addressError s1 ∧ s' = { s1 with mode := .doubleFault } := by
  unfold State.enterAddressError at h
  split at h
  · injection h with h; subst h; rename_i heq; exact .inl heq
  · injection h with h; subst h; rename_i heq; exact .inr ⟨_, heq, rfl⟩
  all_goals contradiction

theorem State.enter_cases (s s' : State) (v : BitVec 8) (spc : Word) (mask : Option (BitVec 4))
    (h : s.enter v spc mask = .next s') :
    s.tryEnter v spc mask = .entered s' ∨
      ∃ s1, s.tryEnter v spc mask = .addressError s1 ∧ s1.enterAddressError spc = .next s' := by
  unfold State.enter at h
  split at h
  · injection h with h; subst h; rename_i heq; exact .inl heq
  · rename_i heq; exact .inr ⟨_, heq, h⟩
  all_goals contradiction

/-- An illegal instruction is an entry with one of the two vector numbers (rules R515, R517). -/
theorem State.raiseIllegal_enter (s : State) : ∃ v spc, s.raiseIllegal = s.enter v spc none := by
  unfold State.raiseIllegal
  split <;> exact ⟨_, _, rfl⟩

/-! ## Every next state of an operation, from what holds of the simplest ones -/

/-- A property of states that no store, register write or entry can end: the shape of an invariant of the machine's events. -/
structure Sturdy (P : State → Prop) : Prop where
  busTurn : ∀ s, P s → P s.busTurn
  poke : ∀ s w a v, a.toNat % widthBytes w = 0 → P s → P (s.poke w a v)
  enter : ∀ s sp r h, P s → P { s.setReg 15 sp with sr := r, pc := h, slot := none, intInhibit := false }
  doubleFault : ∀ s, P s → P { s with mode := .doubleFault }

theorem Sturdy.pushedSr {P : State → Prop} (hP : Sturdy P) (s : State) (h4 : (s.reg 15 - 4#32).toNat % 4 = 0)
    (hs : P s) : P s.pushedSr := hP.poke _ _ _ _ h4 (hP.busTurn s hs)

theorem Sturdy.pushedFrame {P : State → Prop} (hP : Sturdy P) (s : State) (spc : Word)
    (h4 : (s.reg 15 - 4#32).toNat % 4 = 0) (h8 : (s.reg 15 - 8#32).toNat % 4 = 0) (hs : P s) : P (s.pushedFrame spc) :=
  hP.poke _ _ _ _ h8 (hP.busTurn _ (hP.pushedSr s h4 hs))

theorem Sturdy.tryEnter {P : State → Prop} (hP : Sturdy P) (s : State) (v : BitVec 8) (spc : Word)
    (mask : Option (BitVec 4)) (hs : P s) :
    (∀ s', s.tryEnter v spc mask = .entered s' → P s') ∧ (∀ s', s.tryEnter v spc mask = .addressError s' → P s') := by
  have ho := s.tryEnter_outcome v spc mask
  constructor <;> intro s' h <;> rw [h] at ho
  · cases ho with
    | entered h4 h8 hv => exact hP.enter _ _ _ _ (hP.busTurn _ (hP.pushedFrame s spc h4 h8 hs))
  · cases ho with
    | stoppedFirst => exact hs
    | stoppedSecond h4 => exact hP.pushedSr s h4 hs
    | stoppedThird h4 h8 => exact hP.pushedFrame s spc h4 h8 hs

theorem Sturdy.enterAddressError {P : State → Prop} (hP : Sturdy P) (s s' : State) (spc : Word) (hs : P s)
    (h : s.enterAddressError spc = .next s') : P s' := by
  rcases s.enterAddressError_cases s' spc h with h1 | ⟨s1, h1, rfl⟩
  · exact (hP.tryEnter s _ spc none hs).1 s' h1
  · exact hP.doubleFault s1 ((hP.tryEnter s _ spc none hs).2 s1 h1)

theorem Sturdy.enterAny {P : State → Prop} (hP : Sturdy P) (s s' : State) (v : BitVec 8) (spc : Word)
    (mask : Option (BitVec 4)) (hs : P s) (h : s.enter v spc mask = .next s') : P s' := by
  rcases s.enter_cases s' v spc mask h with h | ⟨s1, h1, h⟩
  · exact (hP.tryEnter s v spc mask hs).1 s' h
  · exact hP.enterAddressError s1 s' spc ((hP.tryEnter s v spc mask hs).2 s1 h1) h

theorem Sturdy.raiseIllegal {P : State → Prop} (hP : Sturdy P) (s s' : State) (hs : P s)
    (h : s.raiseIllegal = .next s') : P s' := by
  obtain ⟨v, spc, hv⟩ := s.raiseIllegal_enter
  exact hP.enterAny s s' v spc none hs (hv ▸ h)

end Sys2Proof.Machine
end

