-- ==== Sys2Proof/Tests/Slice0.lean ====
section
/-! SUPPORT. The model's own tests: ill-formed terms that `wellFormed` refuses, the decoding of every constructor from a word
written out bit by bit from the encodings of spec/opcode_table.json, one step of some instructions on the worked examples
of spec/, and a witness for the hypotheses of every statement that has any. -/

namespace Sys2Proof.Tests

open Sys2Proof Sys2Proof.Machine Sys2Proof.Config Sys2Proof.Says

set_option maxRecDepth 20000

/-! ## Well-formedness -/

/-- Rule R118: a PC-rewriting instruction is illegal in a delay slot. -/
theorem test_bra_in_slot_refused : (Instr.bra 0).wellFormed { inSlot := true, fpuStopped := false } = false := by decide

/-- Rule R325: so is TRAPA. -/
theorem test_trapa_in_slot_refused : (Instr.trapa 0).wellFormed { inSlot := true, fpuStopped := false } = false := by decide

/-- Rule R119: an FPU instruction is illegal while the FPU is stopped. -/
theorem test_fadd_stopped_refused : (Instr.fadd 0 1).wellFormed { inSlot := false, fpuStopped := true } = false := by decide

/-- Rule R119: so is an FPU-related CPU instruction. -/
theorem test_sts_fpul_stopped_refused : (Instr.stsFpul 0).wellFormed { inSlot := false, fpuStopped := true } = false := by
  decide

/-- Outside those contexts the same instructions are well formed. -/
theorem test_well_formed_elsewhere :
    (Instr.bra 0).wellFormed { inSlot := false, fpuStopped := true } = true
      ∧ (Instr.fadd 0 1).wellFormed { inSlot := true, fpuStopped := false } = true
      ∧ (Instr.ldsMach 0).wellFormed { inSlot := true, fpuStopped := true } = true := by decide

/-! ## Decoding, one word for every constructor -/

/-- The data transfer instructions: n is 1011, m is 0110, i is 10100111, d is 1001, 11000101 or 101001011100. -/
theorem test_decode_data_transfer :
    [
      (0b1110101110100111#16, Instr.movImm 0xA7 11), (0b1001101111000101#16, Instr.movWPc 0xC5 11),
      (0b1101101111000101#16, Instr.movLPc 0xC5 11), (0b0110101101100011#16, Instr.mov 6 11),
      (0b0010101101100000#16, Instr.movBStore 6 11), (0b0010101101100001#16, Instr.movWStore 6 11),
      (0b0010101101100010#16, Instr.movLStore 6 11), (0b0110101101100000#16, Instr.movBLoad 6 11),
      (0b0110101101100001#16, Instr.movWLoad 6 11), (0b0110101101100010#16, Instr.movLLoad 6 11),
      (0b0010101101100100#16, Instr.movBPreDec 6 11), (0b0010101101100101#16, Instr.movWPreDec 6 11),
      (0b0010101101100110#16, Instr.movLPreDec 6 11), (0b0110101101100100#16, Instr.movBPostInc 6 11),
      (0b0110101101100101#16, Instr.movWPostInc 6 11), (0b0110101101100110#16, Instr.movLPostInc 6 11),
      (0b1000000010111001#16, Instr.movBStoreDisp 0x9 11), (0b1000000110111001#16, Instr.movWStoreDisp 0x9 11),
      (0b0001101101101001#16, Instr.movLStoreDisp 6 0x9 11), (0b1000010001101001#16, Instr.movBLoadDisp 0x9 6),
      (0b1000010101101001#16, Instr.movWLoadDisp 0x9 6), (0b0101101101101001#16, Instr.movLLoadDisp 0x9 6 11),
      (0b0000101101100100#16, Instr.movBStoreR0 6 11), (0b0000101101100101#16, Instr.movWStoreR0 6 11),
      (0b0000101101100110#16, Instr.movLStoreR0 6 11), (0b0000101101101100#16, Instr.movBLoadR0 6 11),
      (0b0000101101101101#16, Instr.movWLoadR0 6 11), (0b0000101101101110#16, Instr.movLLoadR0 6 11),
      (0b1100000011000101#16, Instr.movBStoreGbr 0xC5), (0b1100000111000101#16, Instr.movWStoreGbr 0xC5),
      (0b1100001011000101#16, Instr.movLStoreGbr 0xC5), (0b1100010011000101#16, Instr.movBLoadGbr 0xC5),
      (0b1100010111000101#16, Instr.movWLoadGbr 0xC5), (0b1100011011000101#16, Instr.movLLoadGbr 0xC5),
      (0b1100011111000101#16, Instr.mova 0xC5), (0b0000101100101001#16, Instr.movt 11),
      (0b0110101101101000#16, Instr.swapB 6 11), (0b0110101101101001#16, Instr.swapW 6 11),
      (0b0010101101101101#16, Instr.xtrct 6 11)].all (fun p => decodeWord p.1 == some p.2) = true := by decide

/-- The arithmetic instructions: n is 1011, m is 0110, i is 10100111, d is 1001, 11000101 or 101001011100. -/
theorem test_decode_arithmetic :
    [
      (0b0011101101101100#16, Instr.add 6 11), (0b0111101110100111#16, Instr.addImm 0xA7 11),
      (0b0011101101101110#16, Instr.addc 6 11), (0b0011101101101111#16, Instr.addv 6 11),
      (0b1000100010100111#16, Instr.cmpEqImm 0xA7), (0b0011101101100000#16, Instr.cmpEq 6 11),
      (0b0011101101100010#16, Instr.cmpHs 6 11), (0b0011101101100011#16, Instr.cmpGe 6 11),
      (0b0011101101100110#16, Instr.cmpHi 6 11), (0b0011101101100111#16, Instr.cmpGt 6 11),
      (0b0100101100010101#16, Instr.cmpPl 11), (0b0100101100010001#16, Instr.cmpPz 11),
      (0b0010101101101100#16, Instr.cmpStr 6 11), (0b0011101101100100#16, Instr.div1 6 11),
      (0b0010101101100111#16, Instr.div0s 6 11), (0b0000000000011001#16, Instr.div0u),
      (0b0011101101101101#16, Instr.dmulsL 6 11), (0b0011101101100101#16, Instr.dmuluL 6 11),
      (0b0100101100010000#16, Instr.dt 11), (0b0110101101101110#16, Instr.extsB 6 11),
      (0b0110101101101111#16, Instr.extsW 6 11), (0b0110101101101100#16, Instr.extuB 6 11),
      (0b0110101101101101#16, Instr.extuW 6 11), (0b0000101101101111#16, Instr.macL 6 11),
      (0b0100101101101111#16, Instr.macW 6 11), (0b0000101101100111#16, Instr.mulL 6 11),
      (0b0010101101101111#16, Instr.mulsW 6 11), (0b0010101101101110#16, Instr.muluW 6 11),
      (0b0110101101101011#16, Instr.neg 6 11), (0b0110101101101010#16, Instr.negc 6 11),
      (0b0011101101101000#16, Instr.sub 6 11), (0b0011101101101010#16, Instr.subc 6 11),
      (0b0011101101101011#16, Instr.subv 6 11)].all (fun p => decodeWord p.1 == some p.2) = true := by decide

/-- The logic instructions: n is 1011, m is 0110, i is 10100111, d is 1001, 11000101 or 101001011100. -/
theorem test_decode_logic :
    [
      (0b0010101101101001#16, Instr.andReg 6 11), (0b1100100110100111#16, Instr.andImm 0xA7),
      (0b1100110110100111#16, Instr.andB 0xA7), (0b0110101101100111#16, Instr.notReg 6 11),
      (0b0010101101101011#16, Instr.orReg 6 11), (0b1100101110100111#16, Instr.orImm 0xA7),
      (0b1100111110100111#16, Instr.orB 0xA7), (0b0100101100011011#16, Instr.tasB 11),
      (0b0010101101101000#16, Instr.tstReg 6 11), (0b1100100010100111#16, Instr.tstImm 0xA7),
      (0b1100110010100111#16, Instr.tstB 0xA7), (0b0010101101101010#16, Instr.xorReg 6 11),
      (0b1100101010100111#16, Instr.xorImm 0xA7), (0b1100111010100111#16, Instr.xorB 0xA7)].all (fun p => decodeWord p.1 == some p.2) = true := by decide

/-- The shift instructions: n is 1011, m is 0110, i is 10100111, d is 1001, 11000101 or 101001011100. -/
theorem test_decode_shift :
    [
      (0b0100101100000100#16, Instr.rotl 11), (0b0100101100000101#16, Instr.rotr 11),
      (0b0100101100100100#16, Instr.rotcl 11), (0b0100101100100101#16, Instr.rotcr 11),
      (0b0100101100100000#16, Instr.shal 11), (0b0100101100100001#16, Instr.shar 11),
      (0b0100101100000000#16, Instr.shll 11), (0b0100101100000001#16, Instr.shlr 11),
      (0b0100101100001000#16, Instr.shll2 11), (0b0100101100001001#16, Instr.shlr2 11),
      (0b0100101100011000#16, Instr.shll8 11), (0b0100101100011001#16, Instr.shlr8 11),
      (0b0100101100101000#16, Instr.shll16 11), (0b0100101100101001#16, Instr.shlr16 11)].all (fun p => decodeWord p.1 == some p.2) = true := by decide

/-- The branch instructions: n is 1011, m is 0110, i is 10100111, d is 1001, 11000101 or 101001011100. -/
theorem test_decode_branch :
    [
      (0b1000101111000101#16, Instr.bf 0xC5), (0b1000111111000101#16, Instr.bfS 0xC5),
      (0b1000100111000101#16, Instr.bt 0xC5), (0b1000110111000101#16, Instr.btS 0xC5),
      (0b1010101001011100#16, Instr.bra 0xA5C), (0b0000011000100011#16, Instr.braf 6),
      (0b1011101001011100#16, Instr.bsr 0xA5C), (0b0000011000000011#16, Instr.bsrf 6),
      (0b0100011000101011#16, Instr.jmp 6), (0b0100011000001011#16, Instr.jsr 6), (0b0000000000001011#16, Instr.rts)].all (fun p => decodeWord p.1 == some p.2) = true := by decide

/-- The system control instructions: n is 1011, m is 0110, i is 10100111, d is 1001, 11000101 or 101001011100. -/
theorem test_decode_system_control :
    [
      (0b0000000000001000#16, Instr.clrt), (0b0000000000101000#16, Instr.clrmac),
      (0b0100011000001110#16, Instr.ldcSr 6), (0b0100011000011110#16, Instr.ldcGbr 6),
      (0b0100011000101110#16, Instr.ldcVbr 6), (0b0100011000000111#16, Instr.ldcLSr 6),
      (0b0100011000010111#16, Instr.ldcLGbr 6), (0b0100011000100111#16, Instr.ldcLVbr 6),
      (0b0100011000001010#16, Instr.ldsMach 6), (0b0100011000011010#16, Instr.ldsMacl 6),
      (0b0100011000101010#16, Instr.ldsPr 6), (0b0100011000000110#16, Instr.ldsLMach 6),
      (0b0100011000010110#16, Instr.ldsLMacl 6), (0b0100011000100110#16, Instr.ldsLPr 6),
      (0b0000000000001001#16, Instr.nop), (0b0000000000101011#16, Instr.rte), (0b0000000000011000#16, Instr.sett),
      (0b0000000000011011#16, Instr.sleep), (0b0000101100000010#16, Instr.stcSr 11),
      (0b0000101100010010#16, Instr.stcGbr 11), (0b0000101100100010#16, Instr.stcVbr 11),
      (0b0100101100000011#16, Instr.stcLSr 11), (0b0100101100010011#16, Instr.stcLGbr 11),
      (0b0100101100100011#16, Instr.stcLVbr 11), (0b0000101100001010#16, Instr.stsMach 11),
      (0b0000101100011010#16, Instr.stsMacl 11), (0b0000101100101010#16, Instr.stsPr 11),
      (0b0100101100000010#16, Instr.stsLMach 11), (0b0100101100010010#16, Instr.stsLMacl 11),
      (0b0100101100100010#16, Instr.stsLPr 11), (0b1100001110100111#16, Instr.trapa 0xA7)].all (fun p => decodeWord p.1 == some p.2) = true := by decide

/-- The floating-point instructions: n is 1011, m is 0110, i is 10100111, d is 1001, 11000101 or 101001011100. -/
theorem test_decode_floating_point :
    [
      (0b1111101101011101#16, Instr.fabs 11), (0b1111101101100000#16, Instr.fadd 6 11),
      (0b1111101101100100#16, Instr.fcmpEq 6 11), (0b1111101101100101#16, Instr.fcmpGt 6 11),
      (0b1111101101100011#16, Instr.fdiv 6 11), (0b1111101110001101#16, Instr.fldi0 11),
      (0b1111101110011101#16, Instr.fldi1 11), (0b1111011000011101#16, Instr.flds 6),
      (0b1111101100101101#16, Instr.float 11), (0b1111101101101110#16, Instr.fmac 6 11),
      (0b1111101101101100#16, Instr.fmov 6 11), (0b1111101101100110#16, Instr.fmovLoadR0 6 11),
      (0b1111101101101001#16, Instr.fmovPostInc 6 11), (0b1111101101101000#16, Instr.fmovLoad 6 11),
      (0b1111101101100111#16, Instr.fmovStoreR0 6 11), (0b1111101101101011#16, Instr.fmovPreDec 6 11),
      (0b1111101101101010#16, Instr.fmovStore 6 11), (0b1111101101100010#16, Instr.fmul 6 11),
      (0b1111101101001101#16, Instr.fneg 11), (0b1111101100001101#16, Instr.fsts 11),
      (0b1111101101100001#16, Instr.fsub 6 11), (0b1111011000111101#16, Instr.ftrc 6)].all (fun p => decodeWord p.1 == some p.2) = true := by decide

/-- The FPU-related CPU instructions: n is 1011, m is 0110, i is 10100111, d is 1001, 11000101 or 101001011100. -/
theorem test_decode_fpu_cpu :
    [
      (0b0100011001101010#16, Instr.ldsFpscr 6), (0b0100011001011010#16, Instr.ldsFpul 6),
      (0b0100011001100110#16, Instr.ldsLFpscr 6), (0b0100011001010110#16, Instr.ldsLFpul 6),
      (0b0000101101101010#16, Instr.stsFpscr 11), (0b0000101101011010#16, Instr.stsFpul 11),
      (0b0100101101100010#16, Instr.stsLFpscr 11), (0b0100101101010010#16, Instr.stsLFpul 11)].all (fun p => decodeWord p.1 == some p.2) = true := by decide

/-- Codes that no instruction owns, at the edges of the table of rule R116. -/
theorem test_decode_unassigned :
    [0x0000#16, 0x0001#16, 0x0032#16, 0x0108#16, 0x0119#16, 0x2003#16, 0x3009#16, 0x400C#16, 0x8200#16, 0xF06D#16,
      0xFFFF#16].all (fun w => decodeWord w == none) = true := by decide

/-- The bytes of a code are read big-endian, and what follows is left. -/
theorem test_decode_bytes : decode [0x31#8, 0x0C#8, 0x09#8] = .ok (.add 0 1, [0x09#8]) := by decide

/-- Too few bytes are rejected by name. -/
theorem test_decode_truncated : decode [0x31#8] = .error .truncated := by decide

/-! ## One step -/

/-- The state after reset with a stack pointer at H'4000 and a code at address H'1000, where PC stands. -/
def at1000 (code : Nat) : State :=
  let s := State.reset.setReg 15 0x4000#32
  State.withFetchWord { s with pc := 0x1000#32 } 16 code

/-- One field of the next state, if there is one. -/
def after {α : Type} (s : State) (f : State → α) : Option α :=
  match step s with
  | .next t => some (f t)
  | .fault _ => none
  | .refused _ => none

/-- Rule R204: H'00000002 and H'7FFFFFFE give H'80000000 and T. -/
theorem test_addv : after ((((at1000 0x310F).setReg 0 2#32).setReg 1 0x7FFFFFFE#32)) (fun t => (t.reg 1, t.sr.t, t.pc)) = some (0x80000000#32, true, 0x1002#32) := by decide

/-- Rule R234: H'80000001 less H'00000002 gives H'7FFFFFFF and T. -/
theorem test_subv : after ((((at1000 0x310B).setReg 0 2#32).setReg 1 0x80000001#32)) (fun t => (t.reg 1, t.sr.t)) = some (0x7FFFFFFF#32, true) := by decide

/-- Rule R214: the first derived example. -/
theorem test_div1 : after ((((at1000 0x3104).setReg 0 0x20000#32).setReg 1 7#32)) (fun t => (t.reg 1, t.sr.q, t.sr.t)) = some (0xFFFE000E#32, true, false) := by decide

/-- Rule R218: the example of the manual. -/
theorem test_dmuls : after ((((at1000 0x310D).setReg 0 0xFFFFFFFE#32).setReg 1 0x5555#32)) (fun t => (t.mach, t.macl)) = some (0xFFFFFFFF#32, 0xFFFF5556#32) := by decide

/-- Rule R226: the saturation example. -/
theorem test_mac_w_saturates : after ({ ((at1000 0x421F).setReg 1 0x2000#32).setReg 2 0x3000#32 with
      mem := ((at1000 0x421F).mem.write16 0x2000 1#16).write16 0x3000 1#16
      macl := 0x7FFFFFFF#32
      sr := { State.reset.sr with s := true } }) (fun t => (t.mach, t.macl, t.reg 1)) = some (1#32, 0x7FFFFFFF#32, 0x2002#32) := by decide

/-- Rule R213: bytes are compared position by position. -/
theorem test_cmp_str : after ((((at1000 0x232C).setReg 2 0x41424344#32).setReg 3 0x5859435A#32)) (fun t => t.sr.t) = some (true) := by decide

/-- Rule R153: H'8001 is sign-extended. -/
theorem test_mov_w_load : after ({ (at1000 0x6321).setReg 2 0x2000#32 with mem := (at1000 0x6321).mem.write16 0x2000 0x8001#16 }) (fun t => t.reg 3) = some (0xFFFF8001#32) := by decide

/-- Rule R143: with n = m the value before the decrement is stored. -/
theorem test_mov_l_predec : after (((at1000 0x2446).setReg 4 0x2004#32)) (fun t => (t.mem.read32 0x2000, t.reg 4)) = some (0x2004#32, 0x2000#32) := by decide

/-- Rule R142: with n = m the loaded value stays. -/
theorem test_mov_l_postinc_same : after ({ (at1000 0x6446).setReg 4 0x2000#32 with mem := (at1000 0x6446).mem.write32 0x2000 0x12345678#32 }) (fun t => t.reg 4) = some (0x12345678#32) := by decide

/-- Rule R268: byte H'01 gives T = 0 and leaves H'81. -/
theorem test_tas : after ({ (at1000 0x471B).setReg 7 0x2000#32 with mem := (at1000 0x471B).mem.write 0x2000 0x01#8, sr := { State.reset.sr with t := true } }) (fun t => (t.sr.t, t.mem.read 0x2000, t.busLock)) = some (false, 0x81#8, false) := by decide

/-- Rule R294: H'00000001 and T = 1 give H'80000000 and T = 1. -/
theorem test_rotcr : after ({ (at1000 0x4025).setReg 0 1#32 with sr := { State.reset.sr with t := true } }) (fun t => (t.reg 0, t.sr.t)) = some (0x80000000#32, true) := by decide

/-- Rule R296: H'80000001 gives H'C0000000 and T = 1. -/
theorem test_shar : after (((at1000 0x4021).setReg 0 0x80000001#32)) (fun t => (t.reg 0, t.sr.t)) = some (0xC0000000#32, true) := by decide

/-- Rule R330: d = H'FFE targets the branch itself, after the slot. -/
theorem test_bra_to_itself : after ((at1000 0xAFFE)) (fun t => (t.pc, t.slot, t.intInhibit)) = some (0x1002#32, some 0x1000#32, true) := by decide

/-- Rule R326: d = H'80 targets pc + 4 - 256. -/
theorem test_bf_backwards : after ((at1000 0x8B80)) (fun t => (t.pc, t.slot)) = some (0xF04#32, none) := by decide

/-- Rule R335: PR is the address after the slot. -/
theorem test_jsr : after (((at1000 0x400B).setReg 0 0x2000#32)) (fun t => (t.pr, t.slot)) = some (0x1004#32, some 0x2000#32) := by decide

/-- Rule R392: the derived values of the example. -/
theorem test_trapa : after ({ (at1000 0xC320) with mem := (at1000 0xC320).mem.write32 0x80 0x10000000#32 }) (fun t => (t.pc, t.reg 15, t.mem.read32 0x3FFC, t.mem.read32 0x3FF8)) = some (0x10000000#32, 0x3FF8#32, 0xF0#32, 0x1002#32) := by decide

/-- Rule R377: the derived example. -/
theorem test_rte : after ({ (at1000 0x002B).setReg 15 0x3FF8#32 with
      mem := ((at1000 0x002B).mem.write32 0x3FF8 0x1006#32).write32 0x3FFC 0xF1#32 }) (fun t => (t.slot, t.reg 15, t.sr.toWord)) = some (some 0x1006#32, 0x4000#32, 0xF1#32) := by decide

/-- Rule R364: H'FFFFFFFF gives H'000003F3, and interrupts are inhibited. -/
theorem test_ldc_sr : after (((at1000 0x400E).setReg 0 0xFFFFFFFF#32)) (fun t => (t.sr.toWord, t.intInhibit)) = some (0x3F3#32, true) := by decide

/-- Rules R515 and R531: H'FFFF saves its own address, vector number 4. -/
theorem test_general_illegal : after ({ (at1000 0xFFFF) with mem := (at1000 0xFFFF).mem.write32 0x10 0x2000#32 }) (fun t => (t.pc, t.mem.read32 0x3FF8)) = some (0x2000#32, 0x1000#32) := by decide

/-- Rules R517 and R531: TRAPA in a slot saves the branch target, vector number 6. -/
theorem test_slot_illegal : after ({ (at1000 0xC320) with mem := (at1000 0xC320).mem.write32 0x18 0x2000#32, slot := some 0x5000#32, intInhibit := true }) (fun t => (t.pc, t.mem.read32 0x3FF8, t.slot)) = some (0x2000#32, 0x5000#32, none) := by decide

/-- Rules R516 and R531: MOV.L at an odd address saves the next address and loads nothing. -/
theorem test_address_error : after ({ (at1000 0x6012).setReg 1 0x2001#32 with mem := (at1000 0x6012).mem.write32 0x24 0x3000#32 }) (fun t => (t.pc, t.mem.read32 0x3FF8, t.reg 0)) = some (0x3000#32, 0x1002#32, 0#32) := by decide

/-- Rule R429: 3 + 1 = 4. -/
theorem test_fadd : after ((((at1000 0xF320).setFr 2 0x40400000#32).setFr 3 0x3F800000#32)) (fun t => t.fr 3) = some (0x40800000#32) := by decide

/-- Rule R433: 4 / 3 is H'3FAAAAAA. -/
theorem test_fdiv_truncates : after ((((at1000 0xF563).setFr 5 0x40800000#32).setFr 6 0x40400000#32)) (fun t => t.fr 5) = some (0x3FAAAAAA#32) := by decide

/-- Rule R433: 1 / -0 with EZ = 0 gives -INF, CZ and FZ. -/
theorem test_fdiv_by_zero : after ((((at1000 0xF563).setFr 5 0x3F800000#32).setFr 6 0x80000000#32)) (fun t => (t.fr 5, t.fpscr.cz, t.fpscr.fz)) = some (0xFF800000#32, true, true) := by decide

/-- Rule R438: the example of the two roundings. -/
theorem test_fmac_rounds_twice : after (((((at1000 0xF51E).setFr 0 0x3F800001#32).setFr 1 0x3F800001#32).setFr 5 0xBF800002#32)) (fun t => t.fr 5) = some (0#32) := by decide

/-- Rule R450: H'C02ED9EB gives -2. -/
theorem test_ftrc : after (((at1000 0xF63D).setFr 6 0xC02ED9EB#32)) (fun t => (t.fpul, t.fpscr.cv)) = some (0xFFFFFFFE#32, false) := by decide

/-- Rule R437: H'FEFFFFFF gives H'CB800000. -/
theorem test_float : after ({ (at1000 0xF22D) with fpul := 0xFEFFFFFF#32 }) (fun t => t.fr 2) = some (0xCB800000#32) := by decide

/-- Rule R430: +0 and -0 are equal. -/
theorem test_fcmp_eq_zeros : after (((at1000 0xF124).setFr 1 0x80000000#32)) (fun t => t.sr.t) = some (true) := by decide

/-- Rule R449: +INF - +INF is invalid. -/
theorem test_fsub_inf : after ((((at1000 0xF121).setFr 1 0x7F800000#32).setFr 2 0x7F800000#32)) (fun t => (t.fr 1, t.fpscr.fv)) = some (0x7FBFFFFF#32, true) := by decide

/-- Rule R492: H'FFFFFFFF gives H'00058C61. -/
theorem test_lds_fpscr : after (((at1000 0x436A).setReg 3 0xFFFFFFFF#32)) (fun t => t.fpscr.toWord) = some (0x00058C61#32) := by decide

/-- Rules R74 and R225: with Rm = Rn, at two addresses, another master writes the second operand between the two reads. -/
theorem test_mac_l_other_master : after ({ (at1000 0x022F).setReg 2 0x2000#32 with
      mem := ((at1000 0x022F).mem.write32 0x2000 3#32).write32 0x2004 1#32
      inputs := [{ irq := [], fpuStopped := false, reset := none, busWrites := [[], [], [(0x2007, 5#8), (0x2003, 9#8)]] }] }) (fun t => (t.macl, t.reg 2, t.mem.read 0x2003)) = some (15#32, 0x2008#32, 9#8) := by decide

/-- Rules R514 and R543: NMI is entered at VecNum(NMI), H'2C. -/
theorem test_nmi : after ({ (at1000 0x0009) with
      mem := (at1000 0x0009).mem.write32 0x2C 0x3000#32
      irq := [{ level := 16, vector := 11, id := 0 }] }) (fun t => (t.pc, t.sr.i, t.mem.read32 0x3FF8, t.irq)) = some (0x3000#32, 0xF#4, 0x1000#32, []) := by decide

/-- Rules R516 and R531: a slot at an odd pc takes an address error with that pc saved. -/
theorem test_odd_slot : after ({ (at1000 0x0009) with mem := (at1000 0x0009).mem.write32 0x24 0x3000#32, pc := 0x1001#32, slot := some 0x2000#32, intInhibit := true }) (fun t => (t.pc, t.mem.read32 0x3FF8, t.slot)) = some (0x3000#32, 0x1001#32, none) := by decide

/-! ## Witnesses: states and operands that meet the hypotheses of the statements -/

/-- The state of the step tests, at a NOP. -/
def start : State := at1000 0x0009

/-- As `start`, in the delay slot of a branch to H'2000. -/
def inSlot : State := { start with slot := some 0x2000#32, intInhibit := true }

/-- An input that offers these requests and nothing else. -/
def offers (irq : List IrqRequest) : PlatformInput := { irq := irq, fpuStopped := false, reset := none, busWrites := [] }

/-- As `inSlot`, with a memory map that forbids the fetch of the slot instruction. -/
def forbiddenSlot : State :=
  let code : Region := { base := 0x1000, size := 2, kind := some .fetch, width := none, backing := .addressError }
  { inSlot with platform := { start.platform with memMap := [code] } }

theorem witness_EncodeDecodeRoundTrip : decodeWord 0x0009#16 = some .nop := by decide

theorem witness_UnassignedCodesRejected :
    Unassigned 0x0000#16 ∧ Unassigned 0x0FFB#16 ∧ Unassigned 0x2003#16 ∧ Unassigned 0x3001#16 ∧ Unassigned 0x4033#16
      ∧ Unassigned 0x400C#16 ∧ Unassigned 0x8200#16 ∧ Unassigned 0x8E00#16 ∧ Unassigned 0xF06D#16 ∧ Unassigned 0xFFFF#16 := by
  refine ⟨?_, ?_, ?_, ?_, ?_, ?_, ?_, ?_, ?_, ?_⟩ <;> simp [Unassigned]

/-- Addresses from PC, in and out of a slot, with the greatest displacement. -/
theorem witness_PcRelativeOperands :
    Accessible start .read .word (pcOperand start + BitVec.ofNat 32 (255 * 2))
      ∧ Accessible inSlot .read .word (pcOperand inSlot + BitVec.ofNat 32 0)
      ∧ Accessible start .read .long (BitVec.ofNat 32 ((pcOperand start).toNat / 4 * 4 + 255 * 4))
      ∧ Accessible inSlot .read .long (BitVec.ofNat 32 ((pcOperand inSlot).toNat / 4 * 4 + 0)) := by
  unfold Accessible pcOperand; decide

/-- Loads at the lowest and the highest address of each width. -/
theorem witness_Loads :
    Accessible start .read .byte (start.reg 1) ∧ Accessible start .read .word (start.reg 1) ∧ Accessible start .read .long (start.reg 15)
      ∧ Accessible start .read .byte 0xFFFFFFFF#32 ∧ Accessible start .read .word 0xFFFFFFFE#32
      ∧ Accessible start .read .long 0xFFFFFFFC#32 ∧ Accessible start .read .long (start.reg 15 + BitVec.ofNat 32 (15 * 4))
      ∧ Accessible start .read .long (start.reg 1 + start.reg 0) ∧ Accessible start .read .long (start.gbr + BitVec.ofNat 32 (255 * 4))
      ∧ always start := by
  unfold Accessible always; decide

/-- Stores at the lowest and the highest address of each width. -/
theorem witness_Stores :
    Accessible start .write .byte (start.reg 1) ∧ Accessible start .write .word (start.reg 1)
      ∧ Accessible start .write .long (start.reg 15) ∧ Accessible start .write .byte 0xFFFFFFFF#32
      ∧ Accessible start .write .word 0xFFFFFFFE#32 ∧ Accessible start .write .long 0xFFFFFFFC#32
      ∧ Accessible start .write .long (start.reg 15 + BitVec.ofNat 32 (15 * 4))
      ∧ Accessible start .write .long (start.reg 1 + start.reg 0)
      ∧ Accessible start .write .long (start.gbr + BitVec.ofNat 32 (255 * 4)) ∧ always start := by
  unfold Accessible always; decide

theorem witness_StepAddressing :
    Accessible start .read .byte (start.reg 1) ∧ Accessible start .read .word (start.reg 1) ∧ Accessible start .read .long (start.reg 1)
      ∧ Accessible start .write .byte (start.reg 15 - 1#32) ∧ Accessible start .write .word (start.reg 15 - 2#32)
      ∧ Accessible start .write .long (start.reg 15 - 4#32) ∧ Accessible start .write .long (start.reg 0 - 4#32) := by
  unfold Accessible; decide

/-- Both operands readable, two registers and one; and a readable first with a misaligned second operand. -/
theorem witness_MultiplyAccumulateLong :
    Accessible start .read .long (start.reg 15) ∧ Accessible start .read .long (start.reg 1)
      ∧ Accessible start .read .long (start.reg 15 + 4#32) ∧ ((start.setReg 1 2#32).reg 1).toNat % 4 ≠ 0
      ∧ Accessible (start.setReg 1 2#32) .read .long ((start.setReg 1 2#32).reg 15) := by
  unfold Accessible; decide

theorem witness_MultiplyAccumulateWord :
    Accessible start .read .word (start.reg 15) ∧ Accessible start .read .word (start.reg 1)
      ∧ Accessible start .read .word (start.reg 15 + 2#32) ∧ ((start.setReg 1 1#32).reg 1).toNat % 2 ≠ 0
      ∧ Accessible (start.setReg 1 1#32) .read .word ((start.setReg 1 1#32).reg 15) := by
  unfold Accessible; decide

theorem witness_LogicOnMemory :
    Accessible start .read .byte (start.gbr + start.reg 0) ∧ Accessible start .write .byte (start.gbr + start.reg 0)
      ∧ Accessible start .read .byte (start.reg 15) ∧ Accessible start .write .byte (start.reg 15) := by
  unfold Accessible; decide

/-- Of the statements on BF and BT, BF/S and BT/S, BRA to RTS. -/
theorem witness_ConditionalBranches : start.slot = none := by decide

theorem witness_DelayedConditionalBranches : start.slot = none := by decide

theorem witness_DelayedBranches : start.slot = none := by decide

/-- What is left of the pc, the mode and the saved PC after an instruction that answers a next state. -/
def leaves (r : Result) : Option (Word × Mode × Word) :=
  match r with
  | .next t => some (t.pc, t.mode, t.mem.read32 (t.reg 15).toNat)
  | .fault _ => none
  | .refused _ => none

/-- A slot instruction that completes, one that is slot illegal, one whose access is misaligned, MAC.L with its second access
misaligned, and one that is illegal with R15 misaligned; other bus masters are silent. -/
theorem witness_SlotIsOneInstruction :
    inSlot.slot = some 0x2000#32 ∧ inSlot.bus = []
      ∧ leaves (exec .nop inSlot) = some (0x2000#32, .running, 0#32)
      ∧ leaves (exec .rts inSlot) = some (0#32, .running, 0x2000#32)
      ∧ leaves (exec (.movLLoad 1 0) (inSlot.setReg 1 2#32)) = some (0#32, .running, 0x2000#32)
      ∧ leaves (exec (.macL 1 15) (inSlot.setReg 1 2#32)) = some (0#32, .running, 0x2000#32)
      ∧ leaves (exec .rts (inSlot.setReg 15 2#32)) = some (0x1000#32, .doubleFault, 0#32) := by decide

theorem witness_ControlAndSystemRegistersInMemory :
    Accessible start .read .long (start.reg 15) ∧ Accessible start .write .long (start.reg 15 - 4#32)
      ∧ Accessible start .write .long (start.reg 0 - 4#32) := by
  unfold Accessible; decide

theorem witness_ReturnFromException :
    start.slot = none ∧ Accessible start .read .long (start.reg 15) ∧ Accessible start .read .long (start.reg 15 + 4#32) := by
  unfold Accessible; decide

/-- Asleep with a masked request, offered before and offered now, and asleep with an FPU exception pending. -/
theorem witness_SleepAndWake :
    (let s := { start with mode := .asleep, irq := [{ level := 15, vector := 64, id := 0 }] };
      s.mode = .asleep ∧ NoReset s ∧ s.fpuPending = none ∧ ∀ r ∈ (absorbed s).irq, ¬ Eligible s r)
    ∧ (let s := { start with mode := .asleep, inputs := [offers [{ level := 15, vector := 64, id := 0 }]] };
      s.mode = .asleep ∧ NoReset s ∧ s.fpuPending = none ∧ ∀ r ∈ (absorbed s).irq, ¬ Eligible s r)
    ∧ (let s := { start with mode := .asleep, fpuPending := some 0 };
      s.mode = .asleep ∧ NoReset s ∧ s.fpuPending = some 0 ∧ FrameReady s 13#8) := by
  unfold NoReset Eligible FrameReady Accessible; decide

theorem witness_TrapEntry : start.slot = none ∧ FrameReady start 0#8 ∧ FrameReady start 255#8 := by
  unfold FrameReady Accessible; decide

theorem witness_ExceptionEntry : FrameReady start 0#8 ∧ FrameReady start 255#8 ∧ FrameReady start start.platform.vec.addressError := by
  unfold FrameReady Accessible; decide

/-- R15 misaligned; VBR misaligned with the frame storable, and other bus masters silent; and the terminal state. -/
theorem witness_DoubleFault :
    (((start.setReg 15 0x4002#32).reg 15).toNat % 4 ≠ 0 ∧ (start.setReg 15 0x4002#32).slot = none)
      ∧ (let s := { start with vbr := 2#32 };
        Accessible s .write .long (s.reg 15 - 4#32) ∧ Accessible s .write .long (s.reg 15 - 8#32) ∧ s.vbr.toNat % 4 ≠ 0
          ∧ s.bus = [] ∧ s.slot = none)
      ∧ (let s := { start with mode := .doubleFault };
        s.mode = .doubleFault ∧ NoReset s) := by
  unfold NoReset Accessible; decide

/-- A branch in a slot, an FPU instruction of a stopped FPU, an unassigned code, and frames that can be stored. -/
theorem witness_IllegalInstructionsTrap :
    (Instr.rts.rewritesPc = true ∧ inSlot.slot ≠ none ∧ FrameReady inSlot inSlot.platform.vec.slotIllegal)
      ∧ ((Instr.fldi0 0).usesFpu = true ∧ ({ start with fpuStopped := true } : State).fpuStopped = true
        ∧ FrameReady { start with fpuStopped := true } start.platform.vec.generalIllegal)
      ∧ (Unassigned 0xFFFF#16 ∧ FrameReady start start.platform.vec.generalIllegal) := by
  refine ⟨by unfold FrameReady Accessible; decide, by unfold FrameReady Accessible; decide, by simp [Unassigned],
    by unfold FrameReady Accessible; decide⟩

theorem witness_PendingFpuExceptionMakesNops :
    (Instr.fldi0 0).usesFpu = true ∧ ({ start with fpuPending := some 0 } : State).fpuStopped = false
      ∧ ({ start with fpuPending := some 0 } : State).fpuPending ≠ none := by decide

/-- A misaligned load, one of the FPU, a misaligned stack of TRAPA, an odd PC, in a slot and outside, and a slot that the
memory map forbids to fetch. -/
theorem witness_MisalignedAccessesTrap :
    (firstAccess (.movLLoad 1 0) (start.setReg 1 2#32) = some (.long, 2#32) ∧ (2#32).toNat % widthBytes .long ≠ 0)
      ∧ (firstAccess (.fmovLoad 1 0) (start.setReg 1 1#32) = some (.long, 1#32) ∧ (1#32).toNat % widthBytes .long ≠ 0
        ∧ FpuReady (start.setReg 1 1#32))
      ∧ ((start.setReg 15 0x4002#32).slot = none ∧ ((start.setReg 15 0x4002#32).reg 15 - 4#32).toNat % 4 ≠ 0)
      ∧ (let s := { start with pc := 0x1001#32 };
        Continues s ∧ s.pc.toNat % 2 ≠ 0)
      ∧ (let s := { inSlot with pc := 0x1001#32 };
        Continues s ∧ s.pc.toNat % 2 ≠ 0)
      ∧ (Continues forbiddenSlot
        ∧ backingOf forbiddenSlot.platform.memMap .fetch .word forbiddenSlot.pc.toNat = .addressError) := by
  unfold Continues NoReset FpuReady Eligible; decide

/-- An assigned code, an unassigned one, a slot and an inhibit with a request waiting, no recent store, and an input with
writes of other bus masters. -/
theorem witness_StepRunsDecodedInstruction :
    (Continues start ∧ Accessible start .fetch .word start.pc ∧ start.recent = [] ∧ start.inputs = []
        ∧ decodeWord ((absorbed start).busTurn.fetchedCode start.pc.toNat) = some .nop)
      ∧ (Continues (at1000 0xFFFF) ∧ Accessible (at1000 0xFFFF) .fetch .word (at1000 0xFFFF).pc
        ∧ decodeWord ((absorbed (at1000 0xFFFF)).busTurn.fetchedCode (at1000 0xFFFF).pc.toNat) = none)
      ∧ Continues { inSlot with irq := [{ level := 16, vector := 11, id := 0 }] }
      ∧ Continues { start with intInhibit := true, fpuPending := some 0 }
      ∧ (let s := { start with inputs := [{ offers [] with busWrites := [[(0x1001, 0x18#8)]] }] };
        Continues s ∧ decodeWord ((absorbed s).busTurn.fetchedCode s.pc.toNat) = some .sett) := by
  refine ⟨?_, ?_, ?_, ?_, ?_⟩ <;> (unfold Continues NoReset; try unfold Accessible) <;> unfold Eligible <;> decide

/-- NMI behind a request that the mask admits, running; the first of two equal requests, asleep; and the user break behind
another request of level 15. -/
theorem witness_InterruptAcceptance :
    (let low : IrqRequest := { level := 1, vector := 64, id := 1 };
      let nmi : IrqRequest := { level := 16, vector := 11, id := 0 };
      let s := { start with inputs := [offers [low, nmi]], sr := { start.sr with i := 0#4 } };
      NoReset s ∧ (s.mode = .running ∧ s.slot = none ∧ s.intInhibit = false ∧ s.fpuPending ≠ some 0)
        ∧ (absorbed s).irq = [low] ++ nmi :: [] ∧ Eligible s nmi
        ∧ (∀ q ∈ [low], Eligible s q → Outranks s nmi q) ∧ FrameReady s s.platform.vec.nmi)
    ∧ (let r : IrqRequest := { level := 15, vector := 64, id := 0 };
      let q : IrqRequest := { level := 15, vector := 65, id := 1 };
      let s := { start with mode := .asleep, irq := [r, q], sr := { start.sr with i := 14#4 } };
      NoReset s ∧ (s.mode = .asleep ∧ s.fpuPending = none) ∧ (absorbed s).irq = [] ++ r :: [q] ∧ Eligible s r
        ∧ ¬ Outranks s q r ∧ FrameReady s r.vector)
    ∧ (let q : IrqRequest := { level := 15, vector := 64, id := 0 };
      let r : IrqRequest := { level := 15, vector := 12, id := 1 };
      let s := { start with irq := [q, r], sr := { start.sr with i := 14#4 } };
      NoReset s ∧ (absorbed s).irq = [q] ++ r :: [] ∧ Eligible s r ∧ Outranks s r q ∧ FrameReady s r.vector) := by
  unfold NoReset Eligible Outranks FrameReady Accessible; decide

theorem witness_FpuExceptionAcceptance :
    let s := { start with fpuPending := some 0 };
    NoReset s ∧ s.mode = .running ∧ s.slot = none ∧ s.intInhibit = false ∧ s.fpuPending = some 0 ∧ FrameReady s 13#8 := by
  unfold NoReset FrameReady Accessible; decide

/-- A power-on and a manual reset. -/
theorem witness_ResetEvent :
    (let p : PlatformInput := { irq := [], fpuStopped := true, reset := some .powerOn, busWrites := [[(0, 1#8)]] };
      let s := { start with inputs := [p], mode := .doubleFault };
      s.inputs = p :: [] ∧ p.reset = some .powerOn
        ∧ Accessible s .read .long s.platform.resetVectorAddr ∧ Accessible s .read .long (s.platform.resetVectorAddr + 4#32))
    ∧ (let p : PlatformInput := { irq := [], fpuStopped := false, reset := some .manual, busWrites := [] };
      let s := { start with inputs := [p], mode := .asleep };
      s.inputs = p :: [] ∧ p.reset = some .manual
        ∧ Accessible s .read .long s.platform.manualResetVectorAddr
        ∧ Accessible s .read .long (s.platform.manualResetVectorAddr + 4#32)) := by
  unfold Accessible; decide

/-- Every class of operands of a sum: NaNs of both kinds, infinities of equal and of opposite sign, an infinity and a finite
number, zeros and denormalized numbers, numbers that cancel and numbers that do not. -/
theorem witness_FpSumsAndDifferences :
    isSNaN 0x7FC00000#32 ∧ isSNaN 0xFFFFFFFF#32 ∧ isQNaN 0x7FBFFFFF#32 ∧ isQNaN 0x7F800001#32 ∧ isInf 0x7F800000#32 ∧ isInf 0xFF800000#32
      ∧ negative 0x7F800000#32 ≠ negative 0xFF800000#32 ∧ isFinite 0x7F7FFFFF#32 ∧ isZero 0x007FFFFF#32 ∧ isZero 0x80000000#32
      ∧ isNorm 0x00800000#32 ∧ isNorm 0x7F7FFFFF#32 := by
  unfold isFinite isSNaN isQNaN isInf isZero isNorm; decide

theorem witness_FpSums_cancel : real 0x3F800000#32 + real 0xBF800000#32 = 0 ∧ real 0x3F800000#32 + real 0x3F800000#32 ≠ 0 := by
  norm_num [real]

theorem witness_FpProducts :
    isSNaN 0x7FC00000#32 ∧ isQNaN 0x7FBFFFFF#32 ∧ isInf 0x7F800000#32 ∧ isZero 0x00000001#32 ∧ isNorm 0x00800000#32
      ∧ isFinite 0x80000000#32 := by
  unfold isFinite isSNaN isQNaN isInf isZero isNorm; decide

theorem witness_FpQuotients :
    isSNaN 0x7FC00000#32 ∧ isQNaN 0x7FBFFFFF#32 ∧ isInf 0xFF800000#32 ∧ isZero 0x80000001#32 ∧ isNorm 0x7F7FFFFF#32
      ∧ isFinite 0x00000000#32 := by
  unfold isFinite isSNaN isQNaN isInf isZero isNorm; decide

/-- The ranges of a rounding: below 2^-126, from 2^128 on, and between at both ends. -/
theorem witness_Truncated :
    |(1 : ℚ) / 2 ^ 127| < (2 : ℚ) ^ (-126 : Int) ∧ (2 : ℚ) ^ (128 : Int) ≤ |(2 : ℚ) ^ (128 : Int)|
      ∧ (2 : ℚ) ^ (-126 : Int) ≤ |(1 : ℚ) / 2 ^ 126| ∧ |(1 : ℚ) / 2 ^ 126| < (2 : ℚ) ^ (128 : Int) := by
  norm_num

/-- The ranges of an integer conversion at their ends: -2^31 and the number above 2^31 - 256 convert, 2^31 and the number
below -2^31 do not. -/
theorem witness_FpConversions :
    isFinite 0xCF000000#32 ∧ real 0xCF000000#32 = -2 ^ 31 ∧ isFinite 0x4EFFFFFF#32 ∧ real 0x4EFFFFFF#32 < 2 ^ 31
      ∧ -2 ^ 31 ≤ real 0x4EFFFFFF#32 ∧ isFinite 0x4F000000#32 ∧ (2 : ℚ) ^ 31 ≤ real 0x4F000000#32
      ∧ isFinite 0xCF000001#32 ∧ real 0xCF000001#32 < -2 ^ 31 ∧ isInf 0xFF800000#32 ∧ isQNaN 0x7F800001#32 := by
  refine ⟨by unfold isFinite isZero isNorm; decide, by norm_num [real], by unfold isFinite isZero isNorm; decide,
    by norm_num [real], by norm_num [real], by unfold isFinite isZero isNorm; decide, by norm_num [real],
    by unfold isFinite isZero isNorm; decide, by norm_num [real], by unfold isInf; decide, by unfold isQNaN; decide⟩

/-- A state in which an operation raises nothing and one in which it raises the enabled exception; every class of FABS. -/
theorem witness_FpArithmeticInstructions :
    FpuReady start ∧ trapped start.fpscr .invalid = false
      ∧ (let s := { start with fpscr := { start.fpscr with ev := true, ez := true } };
        FpuReady s ∧ trapped s.fpscr .invalid = true ∧ trapped s.fpscr (.divByZero true) = true)
      ∧ isNorm 0x3F800000#32 ∧ isInf 0x7F800000#32 ∧ isZero 0x80000001#32 ∧ isQNaN 0xFF800001#32 ∧ isSNaN 0xFFC00000#32 := by
  unfold FpuReady isNorm isInf isZero isQNaN isSNaN; decide

/-- Nothing raised; an enabled invalid product; an enabled invalid sum after a good product. -/
theorem witness_FpMultiplyAdd :
    (FpuReady start ∧ trapped start.fpscr (fpMul (start.fr 0) (start.fr 1)) = false
        ∧ trapped start.fpscr (fpAdd (untrapped (fpMul (start.fr 0) (start.fr 1))) (start.fr 2)) = false)
      ∧ (let s := ({ start with fpscr := { start.fpscr with ev := true } } : State).setFr 1 0x7F800000#32;
        FpuReady s ∧ trapped s.fpscr (fpMul (s.fr 0) (s.fr 1)) = true)
      ∧ (let s := ((({ start with fpscr := { start.fpscr with ev := true } } : State).setFr 0 0x7F800000#32).setFr 1
            0x3F800000#32).setFr 2 0xFF800000#32;
        FpuReady s ∧ trapped s.fpscr (fpMul (s.fr 0) (s.fr 1)) = false
          ∧ trapped s.fpscr (fpAdd (untrapped (fpMul (s.fr 0) (s.fr 1))) (s.fr 2)) = true) := by
  unfold FpuReady; decide

/-- No NaN, a quiet one, a signaling one, the exception disabled and enabled. -/
theorem witness_FpComparisons :
    (FpuReady start ∧ ¬ (isSNaN (start.fr 1) ∨ isSNaN (start.fr 2)) ∧ ¬ (isQNaN (start.fr 1) ∨ isQNaN (start.fr 2)))
      ∧ (let s := start.setFr 1 0x7FBFFFFF#32;
        FpuReady s ∧ ¬ (isSNaN (s.fr 1) ∨ isSNaN (s.fr 2)) ∧ (isQNaN (s.fr 1) ∨ isQNaN (s.fr 2)) ∧ s.fpscr.ev = false)
      ∧ (let s := { start.setFr 1 0x7FC00000#32 with fpscr := { start.fpscr with ev := true } };
        FpuReady s ∧ (isSNaN (s.fr 1) ∨ isSNaN (s.fr 2)) ∧ s.fpscr.ev = true) := by
  unfold FpuReady isSNaN isQNaN; decide

theorem witness_FpTruncationInstruction :
    (FpuReady start ∧ (fpTrunc (start.fr 1)).2 = false)
      ∧ (let s := start.setFr 1 0x4F000000#32;
        FpuReady s ∧ (fpTrunc (s.fr 1)).2 = true ∧ s.fpscr.ev = false)
      ∧ (let s := { start.setFr 1 0x4F000000#32 with fpscr := { start.fpscr with ev := true } };
        FpuReady s ∧ (fpTrunc (s.fr 1)).2 = true ∧ s.fpscr.ev = true) := by
  unfold FpuReady; decide

theorem witness_FpCopiesAndFpuRegisters : FpuReady start := by unfold FpuReady; decide

theorem witness_FpMemory :
    FpuReady start ∧ Accessible start .read .long (start.reg 15) ∧ Accessible start .read .long (start.reg 1 + start.reg 0)
      ∧ Accessible start .write .long (start.reg 15) ∧ Accessible start .write .long (start.reg 15 - 4#32)
      ∧ Accessible start .write .long (start.reg 1 + start.reg 0) := by
  unfold FpuReady Accessible; decide

/-- A state of the invariant with a guarded slot, and a step from it that answers a next state. -/
theorem witness_StepKeepsInvariant : inSlot.Inv = true ∧ after inSlot (fun t => t.pc) = some 0x2000#32 := by decide

/-- An instruction outside each list and one inside it, both answering a next state. -/
theorem witness_StatusRegisterWriters :
    exec .nop start = .next (moved start) ∧ loadsSr .nop = false ∧ writesQM .nop = false ∧ writesT .nop = false
      ∧ writesT .sett = true := by
  exact ⟨rfl, by decide⟩

theorem witness_SystemRegisterWriters :
    exec .nop start = .next (moved start) ∧ writesMac .nop = false ∧ writesPr .nop = false ∧ writesGbr .nop = false
      ∧ writesVbr .nop = false ∧ Instr.nop.usesFpu = false := by
  exact ⟨rfl, by decide⟩

/-- Bytes to write, an unlocked bus and a locked one, and nothing to write. -/
theorem witness_OtherMastersWriteBetweenAccesses :
    (let s := { start with bus := [[(0x2000, 5#8), (0x2000, 6#8)], []] };
      s.busLock = false ∧ s.bus = [(0x2000, 5#8), (0x2000, 6#8)] :: [[]] ∧ s.busTurn.mem.read 0x2000 = 6#8)
      ∧ ({ start with busLock := true } : State).busLock = true ∧ start.bus = [] := by decide

end Sys2Proof.Tests
end

section
/-! SUPPORT. What a step comes to before any instruction's meaning: the platform's input, the boundary before the
instruction, and the fetch. -/

namespace Sys2Proof.Machine

open Sys2Proof.Config Sys2Proof.Says

/-! ## The state in which a step begins -/

/-- `absorbed` is the state that the platform's turn leaves. -/
theorem State.absorb_fst (s : State) : s.absorb.1 = absorbed s := by
  unfold State.absorb absorbed
  cases s.inputs <;> rfl

@[simp] theorem sr_absorbed (s : State) : (absorbed s).sr = s.sr := by
  unfold absorbed; split <;> rfl
@[simp] theorem pc_absorbed (s : State) : (absorbed s).pc = s.pc := by
  unfold absorbed; split <;> rfl
@[simp] theorem slot_absorbed (s : State) : (absorbed s).slot = s.slot := by
  unfold absorbed; split <;> rfl
@[simp] theorem intInhibit_absorbed (s : State) : (absorbed s).intInhibit = s.intInhibit := by
  unfold absorbed; split <;> rfl
@[simp] theorem fpuPending_absorbed (s : State) : (absorbed s).fpuPending = s.fpuPending := by
  unfold absorbed; split <;> rfl
@[simp] theorem mode_absorbed (s : State) : (absorbed s).mode = s.mode := by
  unfold absorbed; split <;> rfl
@[simp] theorem platform_absorbed (s : State) : (absorbed s).platform = s.platform := by
  unfold absorbed; split <;> rfl
@[simp] theorem recent_absorbed (s : State) : (absorbed s).recent = s.recent := by
  unfold absorbed; split <;> rfl

theorem absorbed_of_inputs_nil (s : State) (h : s.inputs = []) : absorbed s = { s with bus := [] } := by
  simp [absorbed, h]

/-- `NoReset` says that the platform's turn answers no reset event. -/
theorem State.absorb_of_noReset (s : State) (h : NoReset s) : s.absorb = (absorbed s, none) := by
  refine Prod.ext s.absorb_fst ?_
  unfold State.absorb
  split
  · rfl
  · next p rest hp => exact h p (by simp [hp])

theorem step_of_noReset (s : State) (h : NoReset s) : step s = (absorbed s).cpuStep := by
  simp [step, s.absorb_of_noReset h]

/-! ## The boundary before an instruction -/

/-- The model's test of a request is what rule R541 says of it. -/
theorem irqEligible_iff (s : State) (r : IrqRequest) : irqEligible s.sr.i r = true ↔ Eligible s r := by
  simp only [irqEligible, Eligible, Bool.or_eq_true, beq_iff_eq, Bool.and_eq_true, decide_eq_true_eq]
  omega

theorem pickIrq_eq_none (vec : VecNum) (i : BitVec 4) (l : List IrqRequest) (h : ∀ r ∈ l, ¬ irqEligible i r = true) :
    pickIrq vec i l = none := by
  induction l with
  | nil => rfl
  | cons r rest ih =>
    obtain ⟨hr, hrest⟩ := List.forall_mem_cons.mp h
    simp [pickIrq, ih hrest, hr]

/-- A slot and an inhibit close the boundary (rule R542). -/
theorem State.boundaryOpen_eq_false_iff (s : State) :
    s.boundaryOpen = false ↔ s.slot ≠ none ∨ s.intInhibit = true := by
  cases hs : s.slot <;> simp [State.boundaryOpen, hs]

theorem State.boundaryEvent_of_closed (s : State) (h : s.boundaryOpen = false) : s.boundaryEvent = none := by
  simp [State.boundaryEvent, h]

/-- Nothing is accepted where no FPU exception is due and no request is eligible (rules R527, R541). -/
theorem State.boundaryEvent_of_nothing_due (s : State) (hf : s.fpuPending ≠ some 0)
    (hi : ∀ r ∈ s.irq, ¬ Eligible s r) : s.boundaryEvent = none := by
  have hpick : pickIrq s.platform.vec s.sr.i s.irq = none :=
    pickIrq_eq_none _ _ _ fun r hr he => hi r hr ((irqEligible_iff s r).mp he)
  simp [State.boundaryEvent, hf, hpick]

/-- `Continues` leaves the boundary nothing to accept. -/
theorem boundaryEvent_of_continues (s : State) (h : Continues s) : (absorbed s).boundaryEvent = none := by
  obtain ⟨-, -, hslot | hinh | ⟨hf, hi⟩⟩ := h
  · exact State.boundaryEvent_of_closed _ ((State.boundaryOpen_eq_false_iff _).mpr (.inl (by simpa using hslot)))
  · exact State.boundaryEvent_of_closed _ ((State.boundaryOpen_eq_false_iff _).mpr (.inr (by simpa using hinh)))
  · exact State.boundaryEvent_of_nothing_due _ (by simpa using hf) (by simpa [Eligible] using hi)

theorem State.cpuStep_of_running (s : State) (h : s.mode = .running) : s.cpuStep = s.runStep := by
  simp [State.cpuStep, h]

theorem State.runStep_of_no_event (s : State) (h : s.boundaryEvent = none) : s.runStep = s.executeNext := by
  simp [State.runStep, h]

/-- Where a run continues, a step fetches and executes, and does nothing else (rule R545 step 2). -/
theorem step_of_continues (s : State) (h : Continues s) : step s = (absorbed s).executeNext := by
  have ⟨hreset, hmode, _⟩ := h
  rw [step_of_noReset s hreset, State.cpuStep_of_running _ (by simpa using hmode),
    State.runStep_of_no_event _ (boundaryEvent_of_continues s h)]

/-! ## The fetch -/

theorem State.fetch_of_accessible (s : State) (h : Accessible s .fetch .word s.pc) :
    s.fetch = .ok (s.busTurn, s.busTurn.fetchedCode s.pc.toNat) := by
  simp [State.fetch, checkAccess_of_accessible s .fetch .word s.pc h]

theorem State.executeNext_of_accessible (s : State) (h : Accessible s .fetch .word s.pc) :
    s.executeNext = s.busTurn.afterFetch.executeCode (s.busTurn.fetchedCode s.pc.toNat) := by
  simp [State.executeNext, s.fetch_of_accessible h]

theorem State.executeCode_of_decoded (s : State) (code : Half) (i : Instr) (h : decodeWord code = some i) :
    s.executeCode code = exec i s := by
  simp [State.executeCode, h]

/-- An unassigned code is an illegal instruction (rule R115). -/
theorem State.executeCode_of_undecoded (s : State) (code : Half) (h : decodeWord code = none) :
    s.executeCode code = s.raiseIllegal := by
  simp [State.executeCode, h]

/-- A step of a continuing run whose fetch passes executes the fetched code, after the other bus masters' turn. -/
theorem step_eq_executeCode (s : State) (h : Continues s) (ha : Accessible s .fetch .word s.pc) :
    step s = (absorbed s).busTurn.afterFetch.executeCode ((absorbed s).busTurn.fetchedCode s.pc.toNat) := by
  have ha' : Accessible (absorbed s) .fetch .word (absorbed s).pc := by simpa [Accessible] using ha
  simpa [step_of_continues s h] using (absorbed s).executeNext_of_accessible ha'

/-- With no recent store a fetch reads what memory holds (decision D15). -/
theorem State.fetchedCode_of_recent_nil (s : State) (a : Nat) (h : s.recent = []) :
    s.fetchedCode a = s.mem.read16 a := by
  simp [State.fetchedCode, h, fetchByte, Memory.read16]

theorem State.afterFetch_of_recent_nil (s : State) (h : s.recent = []) :
    s.afterFetch = { s with fpuPending := s.fpuPending.map (· - 1) } := by
  simp [State.afterFetch, h, ageStores]

/-- The word at an address is the number its two bytes make (rule R61). -/
theorem Memory.read16_toNat_eq_bytesValue (m : Memory) (a : Nat) : (m.read16 a).toNat = bytesValue m a 2 := by
  simp [Memory.read16_toNat, bytesValue]

/-! ## O40 -/

/-- Settles O40: the boundary accepts nothing, so the step is the fetch and then what the fetched code decodes to. -/
theorem stepRunsDecodedInstruction : Obligations.StepRunsDecodedInstruction := by
  intro s hs ha
  have hstep := step_eq_executeCode s hs ha
  refine ⟨fun i hi => ?decoded, fun hn => ?unassigned, fun hr => ?noRecentStore, fun hin => ?noInput⟩
  case decoded => rw [hstep, State.executeCode_of_decoded _ _ i hi]
  case unassigned => rw [hstep, State.executeCode_of_undecoded _ _ hn]
  case noRecentStore =>
    have hr' : (absorbed s).busTurn.recent = [] := by simpa using hr
    exact ⟨by rw [State.fetchedCode_of_recent_nil _ _ hr', Memory.read16_toNat_eq_bytesValue],
      State.afterFetch_of_recent_nil _ hr'⟩
  case noInput =>
    rw [absorbed_of_inputs_nil s hin]
    exact State.busTurn_of_bus_nil _ rfl

end Sys2Proof.Machine
end

section
/-! SUPPORT. What an instruction can do to the state, once for all 172 of them: a property that survives each of the
operations an instruction is made of survives the instruction. -/

namespace Sys2Proof.Machine

open Sys2Proof.Config Sys2Proof.Says

/-! ## What a meaning answers -/

/-- Every next state that a meaning answers satisfies `P`. -/
def Answers (P : State → Prop) (r : Result) : Prop := ∀ t, r = .next t → P t

@[simp] theorem answers_next (P : State → Prop) (s : State) : Answers P (.next s) ↔ P s := by
  simp [Answers]

@[simp] theorem answers_fault (P : State → Prop) (f : Fault) : Answers P (.fault f) := by
  simp [Answers]

@[simp] theorem answers_refused (P : State → Prop) (r : Refusal) : Answers P (.refused r) := by
  simp [Answers]

/-! ## Operations written as accesses -/

theorem State.andThen_loadLongInc (s : State) (m : Reg) (put : State → Word → State) (body : State → Result) :
    s.andThen (s.loadLongInc m put) body
      = s.withLoad .long (s.reg m) fun s' v => body ((put s' v).setReg m (s.reg m + 4#32)) := by
  unfold State.andThen State.loadLongInc State.withLoad
  cases s.load .long (s.reg m) <;> rfl

theorem State.andThen_storeLongDec (s : State) (n : Reg) (v : Word) (body : State → Result) :
    s.andThen (s.storeLongDec n v) body
      = s.withStore .long (eaPreDec s .long n) v fun s' => body (s'.setReg n (eaPreDec s .long n)) := by
  unfold State.andThen State.storeLongDec State.withStore
  cases s.store .long (eaPreDec s .long n) v <;> rfl

/-- RTE pops PC and then SR (rules R72, R377). -/
theorem State.returnFromException_eq (s : State) :
    s.returnFromException = s.withLoad .long (s.reg 15) fun s0 target =>
      (s0.setReg 15 (s.reg 15 + 4#32)).withLoad .long ((s0.setReg 15 (s.reg 15 + 4#32)).reg 15) fun s2 status =>
        State.delayedBranch
          { s2.setReg 15 ((s0.setReg 15 (s.reg 15 + 4#32)).reg 15 + 4#32) with sr := Sr.ofWord status } target := by
  unfold State.returnFromException State.withLoad
  cases s.load .long (s.reg 15) with
  | ok r =>
    dsimp only
    cases (r.1.setReg 15 (s.reg 15 + 4#32)).load .long ((r.1.setReg 15 (s.reg 15 + 4#32)).reg 15) <;> rfl
  | addressError | fault | refused => rfl

/-- TAS.B keeps the bus locked from its read to its write only (rule R73): no other master has a turn before the write. -/
theorem State.poke_of_locked (s : State) (w : Width) (a v : Word) :
    { ({ s with busLock := true } : State).busTurn.poke w a v with busLock := false }
      = { s.poke w a v with busLock := false } := by
  rw [State.busTurn_of_busLock _ rfl]
  rfl

/-! ## The operations an instruction is made of -/

/-- `P` survives every operation that instruction `i` may be made of. The operations that write a system register, branch
or sleep are asked about only where `i` is an instruction that does so (rules R25 to R34, R325, R379). -/
structure KeptBy (i : Instr) (P : State → Prop) : Prop where
  busTurn : ∀ s, P s → P s.busTurn
  poke : ∀ s w a v, a.toNat % widthBytes w = 0 → P s → P (s.poke w a v)
  unlock : ∀ s, P s → P { s with busLock := false }
  setReg : ∀ s n v, P s → P (s.setReg n v)
  goOn : ∀ s a, P s → P { s with pc := a, slot := none, intInhibit := false }
  inhibit : ∀ s, P s → P { s with intInhibit := true }
  enter : ∀ s v spc, P s → Answers P (s.enter v spc none)
  addressError : ∀ s spc, P s → Answers P (s.enterAddressError spc)
  delay : i.rewritesPc = true → ∀ s a t, P s → P { s with pc := a, slot := some t, intInhibit := true }
  sleep : i = .sleep → ∀ s, P s → P { s.advance with mode := .asleep }
  setT : writesT i = true → ∀ s b, P s → P (s.setT b)
  divide : writesQM i = true → ∀ s m q t, P s → P { s with sr := { s.sr with m := m, q := q, t := t } }
  loadSr : loadsSr i = true → ∀ s r, P s → P { s with sr := r }
  setMac : writesMac i = true → ∀ s h l, P s → P { s with mach := h, macl := l }
  setPr : writesPr i = true → ∀ s v, P s → P { s with pr := v }
  setGbr : writesGbr i = true → ∀ s v, P s → P { s with gbr := v }
  setVbr : writesVbr i = true → ∀ s v, P s → P { s with vbr := v }
  setFpu : i.usesFpu = true → ∀ s f u r, P s → P { s with frs := f, fpul := u, fpscr := r }
  raiseFpu : i.usesFpu = true → ∀ s, P s →
    P { s with fpuPending := some (chooseSkid s.platform.fpuExcSkid s.free), free := s.free + 1 }

section

variable {i : Instr} {P : State → Prop} {s : State}

/-! ## Moving on -/

theorem KeptBy.complete (hP : KeptBy i P) (hs : P s) : Answers P s.complete :=
  (answers_next P _).mpr (hP.goOn s _ hs)

theorem KeptBy.completeInhibited (hP : KeptBy i P) (hs : P s) : Answers P s.completeInhibited :=
  (answers_next P _).mpr (hP.inhibit _ (hP.goOn s _ hs))

theorem KeptBy.completeReg (hP : KeptBy i P) {n : Reg} {v : Word} (hs : P s) : Answers P (s.setReg n v).complete :=
  hP.complete (hP.setReg s n v hs)

theorem KeptBy.delayedBranch (hP : KeptBy i P) (hi : i.rewritesPc = true) {t : Word} (hs : P s) :
    Answers P (s.delayedBranch t) :=
  (answers_next P _).mpr (hP.delay hi s _ t hs)

theorem KeptBy.delayedBranchIf (hP : KeptBy i P) (hi : i.rewritesPc = true) {b : Bool} {t : Word} (hs : P s) :
    Answers P (s.delayedBranchIf b t) := by
  unfold State.delayedBranchIf
  split
  · exact hP.delayedBranch hi hs
  · exact hP.complete hs

theorem KeptBy.branchIf (hP : KeptBy i P) {b : Bool} {t : Word} (hs : P s) : Answers P (s.branchIf b t) := by
  unfold State.branchIf
  split
  · exact (answers_next P _).mpr (hP.goOn s t hs)
  · exact hP.complete hs

/-! ## Exceptions of the instruction -/

theorem KeptBy.raiseAddressError (hP : KeptBy i P) (hs : P s) : Answers P s.raiseAddressError :=
  hP.addressError _ _ (hP.unlock s hs)

theorem KeptBy.raiseIllegal (hP : KeptBy i P) (hs : P s) : Answers P s.raiseIllegal := by
  obtain ⟨v, spc, hv⟩ := s.raiseIllegal_enter
  exact hv ▸ hP.enter s v spc hs

theorem KeptBy.outsideSlot (hP : KeptBy i P) {r : Result} (hs : P s) (hr : Answers P r) :
    Answers P (s.outsideSlot r) := by
  unfold State.outsideSlot
  split
  · exact hP.raiseIllegal hs
  · exact hr

theorem KeptBy.withFpu (hP : KeptBy i P) {r : Result} (hs : P s) (hr : Answers P r) : Answers P (s.withFpu r) := by
  unfold State.withFpu
  split
  · exact hP.raiseIllegal hs
  · split
    · exact hP.complete hs
    · exact hr

/-! ## Accesses -/

theorem KeptBy.withLoad (hP : KeptBy i P) {w : Width} {a : Word} {body : State → Word → Result} (hs : P s)
    (hbody : ∀ s' v, P s' → Answers P (body s' v)) : Answers P (s.withLoad w a body) := by
  intro t ht
  rcases s.withLoad_cases t w a body ht with ⟨-, h⟩ | h
  · exact hbody _ _ (hP.busTurn s hs) t h
  · exact hP.raiseAddressError hs t h

theorem KeptBy.withStore (hP : KeptBy i P) {w : Width} {a v : Word} {body : State → Result} (hs : P s)
    (hbody : ∀ s', P s' → Answers P (body s')) : Answers P (s.withStore w a v body) := by
  intro t ht
  rcases s.withStore_cases t w a v body ht with ⟨ha, h⟩ | h
  · exact hbody _ (hP.poke _ w a v ha (hP.busTurn s hs)) t h
  · exact hP.raiseAddressError hs t h

theorem KeptBy.loadReg (hP : KeptBy i P) {w : Width} {a : Word} {n : Reg} (hs : P s) : Answers P (s.loadReg w a n) :=
  hP.withLoad hs fun _ _ hs' => hP.completeReg hs'

theorem KeptBy.loadPostInc (hP : KeptBy i P) {w : Width} {m n : Reg} (hs : P s) : Answers P (s.loadPostInc w m n) := by
  refine hP.withLoad hs fun s' v hs' => ?_
  split
  · exact hP.completeReg hs'
  · exact hP.completeReg (hP.setReg s' n _ hs')

theorem KeptBy.storeAt (hP : KeptBy i P) {w : Width} {a v : Word} (hs : P s) : Answers P (s.storeAt w a v) :=
  hP.withStore hs fun _ hs' => hP.complete hs'

theorem KeptBy.storePreDec (hP : KeptBy i P) {w : Width} {n : Reg} {v : Word} (hs : P s) :
    Answers P (s.storePreDec w n v) :=
  hP.withStore hs fun _ hs' => hP.completeReg hs'

theorem KeptBy.loadLongInc (hP : KeptBy i P) {m : Reg} {put : State → Word → State} {body : State → Result}
    (hs : P s) (hput : ∀ s' v, P s' → P (put s' v)) (hbody : ∀ s', P s' → Answers P (body s')) :
    Answers P (s.andThen (s.loadLongInc m put) body) := by
  rw [State.andThen_loadLongInc]
  exact hP.withLoad hs fun s' v hs' => hbody _ (hP.setReg _ m _ (hput s' v hs'))

theorem KeptBy.storeLongDec (hP : KeptBy i P) {n : Reg} {v : Word} {body : State → Result}
    (hs : P s) (hbody : ∀ s', P s' → Answers P (body s')) : Answers P (s.andThen (s.storeLongDec n v) body) := by
  rw [State.andThen_storeLongDec]
  exact hP.withStore hs fun s' hs' => hbody _ (hP.setReg s' n _ hs')

theorem KeptBy.loadMacPair (hP : KeptBy i P) {w : Width} {m n : Reg} {body : State → Word → Word → Result} (hs : P s)
    (hbody : ∀ s' a b, P s' → Answers P (body s' a b)) : Answers P (s.loadMacPair w m n body) :=
  hP.withLoad hs fun s1 a h1 => hP.withLoad (hP.setReg s1 n _ h1) fun s2 b h2 => hbody _ a b (hP.setReg s2 m _ h2)

theorem KeptBy.tasB (hP : KeptBy i P) (hi : writesT i = true) {n : Reg} (hs : P s) : Answers P (execTasB n s) := by
  refine hP.withLoad hs fun s' v hs' t ht => ?_
  have hT := hP.setT hi s' (v == 0#32) hs'
  rcases State.withStore_cases _ t _ _ _ _ ht with ⟨ha, h⟩ | h
  · have hpoked := hP.unlock _ (hP.poke _ .byte (s'.reg n) (v ||| 0x80#32) ha hT)
    rw [← State.poke_of_locked] at hpoked
    exact hP.complete hpoked t h
  · exact hP.addressError _ _ (hP.unlock _ hT) t h

theorem KeptBy.returnFromException (hP : KeptBy i P) (hj : i.rewritesPc = true) (hsr : loadsSr i = true) (hs : P s) :
    Answers P s.returnFromException := by
  rw [State.returnFromException_eq]
  exact hP.withLoad hs fun s0 _ h0 => hP.withLoad (hP.setReg s0 15 _ h0) fun s2 _ h2 =>
    hP.delayedBranch hj (hP.loadSr hsr _ _ (hP.setReg s2 15 _ h2))

/-! ## Results -/

theorem KeptBy.completeT (hP : KeptBy i P) (hi : writesT i = true) {b : Bool} (hs : P s) :
    Answers P (s.setT b).complete :=
  hP.complete (hP.setT hi s b hs)

theorem KeptBy.setRegT (hP : KeptBy i P) (hi : writesT i = true) {n : Reg} {r : Word × Bool} (hs : P s) :
    Answers P (s.setRegT n r) :=
  hP.completeT hi (hP.setReg s n r.1 hs)

theorem KeptBy.completeMac (hP : KeptBy i P) (hi : writesMac i = true) {v : BitVec 64} (hs : P s) :
    Answers P (s.setMac v).complete :=
  hP.complete (hP.setMac hi s _ _ hs)

theorem KeptBy.macL (hP : KeptBy i P) (hi : writesMac i = true) {m n : Reg} (hs : P s) : Answers P (execMacL m n s) := by
  unfold execMacL
  exact hP.loadMacPair hs fun _ _ _ => hP.completeMac hi

theorem KeptBy.macW (hP : KeptBy i P) (hi : writesMac i = true) {m n : Reg} (hs : P s) : Answers P (execMacW m n s) := by
  unfold execMacW
  exact hP.loadMacPair hs fun _ _ _ => hP.completeMac hi

theorem KeptBy.completeFpu (hP : KeptBy i P) (hi : i.usesFpu = true) {f : Vector Word 16} {u : Word} {r : Fpscr}
    (hs : P s) : Answers P (State.complete { s with frs := f, fpul := u, fpscr := r }) :=
  hP.complete (hP.setFpu hi s f u r hs)

theorem KeptBy.raise (hP : KeptBy i P) (hi : i.usesFpu = true) {r : Fpscr} (hs : P s) :
    Answers P (State.raiseFpu { s with fpscr := r }) :=
  hP.complete (hP.raiseFpu hi _ (hP.setFpu hi s _ _ r hs))

theorem KeptBy.fpFinish (hP : KeptBy i P) (hi : i.usesFpu = true) {n : FReg} {r : Fpscr × Option Word} (hs : P s) :
    Answers P (s.fpFinish n r) := by
  unfold State.fpFinish
  split
  · exact hP.completeFpu (s := s) hi hs
  · exact hP.raise hi hs

theorem KeptBy.fpCompare (hP : KeptBy i P) (hi : i.usesFpu = true) (hT : writesT i = true) {t : Option Bool} (hs : P s) :
    Answers P (s.fpCompare t) := by
  unfold State.fpCompare
  split
  · exact hP.completeFpu hi (hP.setT hT s _ hs)
  · split
    · exact hP.raise hi hs
    · exact hP.completeFpu hi (hP.setT hT s false hs)

theorem KeptBy.fpTruncate (hP : KeptBy i P) (hi : i.usesFpu = true) {r : Word × Bool} (hs : P s) :
    Answers P (s.fpTruncate r) := by
  unfold State.fpTruncate
  split
  · split
    · exact hP.raise hi hs
    · exact hP.completeFpu hi hs
  · exact hP.completeFpu hi hs

end

/-! ## Every instruction -/

/-- What survives every operation an instruction may be made of survives the instruction, an exception it takes included.
The cases go by what the instruction does. -/
theorem KeptBy.exec {P : State → Prop} {s : State} (i : Instr) (hP : KeptBy i P) (hs : P s) : Answers P (exec i s) := by
  match i with
  -- a result to a general register
  | .movImm .. | .mov .. | .mova .. | .movt .. | .swapB .. | .swapW .. | .xtrct .. | .add .. | .addImm .. | .extsB ..
  | .extsW .. | .extuB .. | .extuW .. | .neg .. | .sub .. | .andReg .. | .andImm .. | .notReg .. | .orReg .. | .orImm ..
  | .xorReg .. | .xorImm .. | .shll2 .. | .shlr2 .. | .shll8 .. | .shlr8 .. | .shll16 .. | .shlr16 .. =>
    exact hP.completeReg hs
  -- a result and T
  | .addc .. | .addv .. | .dt .. | .negc .. | .subc .. | .subv .. | .rotl .. | .rotr .. | .rotcl .. | .rotcr ..
  | .shal .. | .shar .. | .shll .. | .shlr .. => exact hP.setRegT rfl hs
  -- T alone
  | .cmpEqImm .. | .cmpEq .. | .cmpHs .. | .cmpGe .. | .cmpHi .. | .cmpGt .. | .cmpPl .. | .cmpPz .. | .cmpStr ..
  | .tstReg .. | .tstImm .. | .clrt | .sett => exact hP.completeT rfl hs
  -- the division steps
  | .div1 .. => exact hP.complete (hP.divide rfl _ _ _ _ (hP.setReg s _ _ hs))
  | .div0s .. | .div0u => exact hP.complete (hP.divide rfl s _ _ _ hs)
  -- products and the accumulator
  | .dmulsL .. | .dmuluL .. | .mulL .. | .mulsW .. | .muluW .. | .clrmac => exact hP.complete (hP.setMac rfl s _ _ hs)
  | .macL .. => exact hP.macL rfl hs
  | .macW .. => exact hP.macW rfl hs
  -- loads and stores of general registers
  | .movWPc .. | .movLPc .. | .movBLoad .. | .movWLoad .. | .movLLoad .. | .movBLoadDisp .. | .movWLoadDisp ..
  | .movLLoadDisp .. | .movBLoadR0 .. | .movWLoadR0 .. | .movLLoadR0 .. | .movBLoadGbr .. | .movWLoadGbr ..
  | .movLLoadGbr .. => exact hP.loadReg hs
  | .movBPostInc .. | .movWPostInc .. | .movLPostInc .. => exact hP.loadPostInc hs
  | .movBStore .. | .movWStore .. | .movLStore .. | .movBStoreDisp .. | .movWStoreDisp .. | .movLStoreDisp ..
  | .movBStoreR0 .. | .movWStoreR0 .. | .movLStoreR0 .. | .movBStoreGbr .. | .movWStoreGbr .. | .movLStoreGbr .. =>
    exact hP.storeAt hs
  | .movBPreDec .. | .movWPreDec .. | .movLPreDec .. => exact hP.storePreDec hs
  -- bytes in memory
  | .andB .. | .orB .. | .xorB .. => exact hP.withLoad hs fun _ _ => hP.storeAt
  | .tstB .. => exact hP.withLoad hs fun _ _ hs' => hP.completeT rfl hs'
  | .tasB .. => exact hP.tasB rfl hs
  -- branches
  | .bf .. | .bt .. => exact hP.outsideSlot hs (hP.branchIf hs)
  | .bfS .. | .btS .. => exact hP.outsideSlot hs (hP.delayedBranchIf rfl hs)
  | .bra .. | .braf .. | .jmp .. | .rts => exact hP.outsideSlot hs (hP.delayedBranch rfl hs)
  | .bsr .. | .bsrf .. | .jsr .. => exact hP.outsideSlot hs (hP.delayedBranch rfl (hP.setPr rfl s _ hs))
  | .rte => exact hP.outsideSlot hs (hP.returnFromException rfl rfl hs)
  | .trapa .. => exact hP.outsideSlot hs (hP.enter s _ _ hs)
  -- NOP and SLEEP
  | .nop => exact hP.complete hs
  | .sleep => exact (answers_next P _).mpr (hP.sleep rfl s hs)
  -- control and system registers
  | .ldcSr .. => exact hP.completeInhibited (hP.loadSr rfl s _ hs)
  | .ldcGbr .. => exact hP.completeInhibited (hP.setGbr rfl s _ hs)
  | .ldcVbr .. => exact hP.completeInhibited (hP.setVbr rfl s _ hs)
  | .ldsMach .. | .ldsMacl .. => exact hP.completeInhibited (hP.setMac rfl s _ _ hs)
  | .ldsPr .. => exact hP.completeInhibited (hP.setPr rfl s _ hs)
  | .ldcLSr .. => exact hP.loadLongInc hs (fun s' _ => hP.loadSr rfl s' _) fun _ => hP.completeInhibited
  | .ldcLGbr .. => exact hP.loadLongInc hs (fun s' _ => hP.setGbr rfl s' _) fun _ => hP.completeInhibited
  | .ldcLVbr .. => exact hP.loadLongInc hs (fun s' _ => hP.setVbr rfl s' _) fun _ => hP.completeInhibited
  | .ldsLMach .. | .ldsLMacl .. =>
    exact hP.loadLongInc hs (fun s' _ => hP.setMac rfl s' _ _) fun _ => hP.completeInhibited
  | .ldsLPr .. => exact hP.loadLongInc hs (fun s' _ => hP.setPr rfl s' _) fun _ => hP.completeInhibited
  | .stcSr .. | .stcGbr .. | .stcVbr .. | .stsMach .. | .stsMacl .. | .stsPr .. =>
    exact hP.completeInhibited (hP.setReg s _ _ hs)
  | .stcLSr .. | .stcLGbr .. | .stcLVbr .. | .stsLMach .. | .stsLMacl .. | .stsLPr .. =>
    exact hP.storeLongDec hs fun _ => hP.completeInhibited
  -- floating-point results
  | .fabs .. | .fadd .. | .fdiv .. | .float .. | .fmac .. | .fmul .. | .fneg .. | .fsub .. =>
    exact hP.withFpu hs (hP.fpFinish rfl hs)
  | .fcmpEq .. | .fcmpGt .. => exact hP.withFpu hs (hP.fpCompare rfl rfl hs)
  | .ftrc .. => exact hP.withFpu hs (hP.fpTruncate rfl hs)
  -- transfers of floating-point registers
  | .fldi0 .. | .fldi1 .. | .flds .. | .fmov .. | .fsts .. | .ldsFpscr .. | .ldsFpul .. =>
    exact hP.withFpu hs (hP.completeFpu rfl hs)
  | .fmovLoadR0 .. | .fmovLoad .. => exact hP.withFpu hs (hP.withLoad hs fun _ _ hs' => hP.completeFpu rfl hs')
  | .fmovPostInc .. | .ldsLFpscr .. | .ldsLFpul .. =>
    exact hP.withFpu hs (hP.loadLongInc hs (fun s' _ => hP.setFpu rfl s' _ _ _) fun _ => hP.complete)
  | .fmovStoreR0 .. | .fmovStore .. => exact hP.withFpu hs (hP.storeAt hs)
  | .stsFpscr .. | .stsFpul .. => exact hP.withFpu hs (hP.completeReg hs)
  | .fmovPreDec .. | .stsLFpscr .. | .stsLFpul .. =>
    exact hP.withFpu hs (hP.storeLongDec hs fun _ => hP.complete)

end Sys2Proof.Machine
end

section
/-! SUPPORT. Which registers an instruction leaves as they were: the statements about the writers of SR and of the system
registers. -/

namespace Sys2Proof.Machine

open Sys2Proof.Config Sys2Proof.Says

/-! ## SR through an exception -/

@[simp] theorem State.sr_pushedSr (s : State) : s.pushedSr.sr = s.sr := by
  simp [State.pushedSr]

@[simp] theorem State.sr_pushedFrame (s : State) (spc : Word) : (s.pushedFrame spc).sr = s.sr := by
  simp [State.pushedFrame]

theorem State.tryEnter_sr (s : State) (v : BitVec 8) (spc : Word) :
    (∀ t, s.tryEnter v spc none = .entered t → t.sr = s.sr)
      ∧ (∀ t, s.tryEnter v spc none = .addressError t → t.sr = s.sr) := by
  have ho := s.tryEnter_outcome v spc none
  constructor <;> intro t h <;> rw [h] at ho <;> cases ho <;> simp [Sr.raiseMask]

/-- No exception that an instruction takes changes SR (rule R532). -/
theorem State.enterAddressError_sr (s t : State) (spc : Word) (h : s.enterAddressError spc = .next t) :
    t.sr = s.sr := by
  obtain ⟨hentered, hstopped⟩ := s.tryEnter_sr s.platform.vec.addressError spc
  rcases s.enterAddressError_cases t spc h with h1 | ⟨s1, h1, rfl⟩
  · exact hentered t h1
  · exact hstopped s1 h1

theorem State.enter_sr (s t : State) (v : BitVec 8) (spc : Word) (h : s.enter v spc none = .next t) : t.sr = s.sr := by
  obtain ⟨hentered, hstopped⟩ := s.tryEnter_sr v spc
  rcases s.enter_cases t v spc none h with h1 | ⟨s1, h1, h2⟩
  · exact hentered t h1
  · exact (s1.enterAddressError_sr t spc h2).trans (hstopped s1 h1)

/-! ## The lists of writers -/

theorem writesQM_of_loadsSr {i : Instr} (h : loadsSr i = true) : writesQM i = true := by
  unfold loadsSr at h
  split at h
  iterate 3 rfl
  contradiction

theorem writesT_of_loadsSr {i : Instr} (h : loadsSr i = true) : writesT i = true := by
  unfold loadsSr at h
  split at h
  iterate 3 rfl
  contradiction

theorem writesT_of_writesQM {i : Instr} (h : writesQM i = true) : writesT i = true := by
  unfold writesQM at h
  split at h
  iterate 3 rfl
  exact writesT_of_loadsSr h

/-! ## SR under every instruction -/

/-- The new SR `r'` agrees with the old one in the bits that instruction `i` is not listed as a writer of (rules R25, R26). -/
structure SrFrame (i : Instr) (r r' : Sr) : Prop where
  maskAndS : loadsSr i = false → r'.i = r.i ∧ r'.s = r.s
  division : writesQM i = false → r'.q = r.q ∧ r'.m = r.m
  flagT : writesT i = false → r'.t = r.t

theorem SrFrame.refl (i : Instr) (r : Sr) : SrFrame i r r :=
  ⟨fun _ => ⟨rfl, rfl⟩, fun _ => ⟨rfl, rfl⟩, fun _ => rfl⟩

/-- An instruction that loads SR whole is a writer of every bit. -/
theorem SrFrame.of_loadsSr {i : Instr} (hi : loadsSr i = true) (r r' : Sr) : SrFrame i r r' where
  maskAndS := by simp [hi]
  division := by simp [writesQM_of_loadsSr hi]
  flagT := by simp [writesT_of_loadsSr hi]

/-- The bits of SR change under the operations of their writers only. -/
theorem keptBy_srFrame (i : Instr) (r : Sr) : KeptBy i fun t => SrFrame i r t.sr where
  busTurn _ h := h
  poke _ _ _ _ _ h := h
  unlock _ h := h
  setReg _ _ _ h := h
  goOn _ _ h := h
  inhibit _ h := h
  enter s v spc h t ht := show SrFrame i r t.sr by rwa [s.enter_sr t v spc ht]
  addressError s spc h t ht := show SrFrame i r t.sr by rwa [s.enterAddressError_sr t spc ht]
  delay _ _ _ _ h := h
  sleep _ _ h := h
  setT hi _ _ h := { h with flagT := by simp [hi] }
  divide hi _ _ _ _ h :=
    { h with
      division := by simp [hi]
      flagT := by simp [writesT_of_writesQM hi] }
  loadSr hi _ r' _ := SrFrame.of_loadsSr hi r r'
  setMac _ _ _ _ h := h
  setPr _ _ _ h := h
  setGbr _ _ _ h := h
  setVbr _ _ _ h := h
  setFpu _ _ _ _ _ h := h
  raiseFpu _ _ h := h

/-- Settles O58: the frame of SR holds of `s` itself and survives whatever the instruction does. -/
theorem statusRegisterWriters : Obligations.StatusRegisterWriters := by
  intro i s t ht
  have h : SrFrame i s.sr t.sr := (keptBy_srFrame i s.sr).exec i (SrFrame.refl i s.sr) t ht
  exact ⟨h.maskAndS, h.division, h.flagT⟩

/-! ## The system registers under every instruction -/

/-- The state `t` has what `s` had in the system registers that instruction `i` is not listed as a writer of (rules R28 to
R34). -/
structure SystemFrame (i : Instr) (s t : State) : Prop where
  mac : writesMac i = false → t.mach = s.mach ∧ t.macl = s.macl
  pr : writesPr i = false → t.pr = s.pr
  gbr : writesGbr i = false → t.gbr = s.gbr
  vbr : writesVbr i = false → t.vbr = s.vbr
  fpu : i.usesFpu = false → t.frs = s.frs ∧ t.fpul = s.fpul ∧ t.fpscr = s.fpscr ∧ t.fpuPending = s.fpuPending

theorem SystemFrame.refl (i : Instr) (s : State) : SystemFrame i s s :=
  ⟨fun _ => ⟨rfl, rfl⟩, fun _ => rfl, fun _ => rfl, fun _ => rfl, fun _ => ⟨rfl, rfl, rfl, rfl⟩⟩

/-- Exceptions save and change none of the system registers (rule R530). -/
theorem sturdy_systemFrame (i : Instr) (s : State) : Sturdy (SystemFrame i s) where
  busTurn _ h := { h with }
  poke _ _ _ _ _ h := { h with }
  enter _ _ _ _ h := { h with }
  doubleFault _ h := { h with }

/-- The system registers change under the operations of their writers only. -/
theorem keptBy_systemFrame (i : Instr) (s : State) : KeptBy i (SystemFrame i s) where
  busTurn := (sturdy_systemFrame i s).busTurn
  poke := (sturdy_systemFrame i s).poke
  unlock _ h := { h with }
  setReg _ _ _ h := { h with }
  goOn _ _ h := { h with }
  inhibit _ h := { h with }
  enter u v spc h t ht := (sturdy_systemFrame i s).enterAny u t v spc none h ht
  addressError u spc h t ht := (sturdy_systemFrame i s).enterAddressError u t spc h ht
  delay _ _ _ _ h := { h with }
  sleep _ _ h := { h with }
  setT _ _ _ h := { h with }
  divide _ _ _ _ _ h := { h with }
  loadSr _ _ _ h := { h with }
  setMac hi _ _ _ h := { h with mac := by simp [hi] }
  setPr hi _ _ h := { h with pr := by simp [hi] }
  setGbr hi _ _ h := { h with gbr := by simp [hi] }
  setVbr hi _ _ h := { h with vbr := by simp [hi] }
  setFpu hi _ _ _ _ h := { h with fpu := by simp [hi] }
  raiseFpu hi _ h := { h with fpu := by simp [hi] }

/-- Settles O59: the frame of the system registers holds of `s` itself and survives whatever the instruction does. -/
theorem systemRegisterWriters : Obligations.SystemRegisterWriters := by
  intro i s t ht
  have h : SystemFrame i s t := (keptBy_systemFrame i s).exec i (SystemFrame.refl i s) t ht
  exact ⟨h.mac, h.pr, h.gbr, h.vbr, h.fpu⟩

end Sys2Proof.Machine
end

section
/-! SUPPORT. The invariant of the machine: it holds right after reset, and every step keeps it. -/

namespace Sys2Proof.Machine

open Sys2Proof.Config Sys2Proof.Says

/-! ## The invariant as a structure -/

/-- What `State.Inv` says, clause by clause. -/
structure State.Sound (s : State) : Prop where
  memory : s.mem.wf = true
  guarded : s.slot ≠ none → s.intInhibit = true ∧ s.mode ≠ .asleep
  busFree : s.busLock = false
  recent : ∀ r ∈ s.recent, 1 ≤ r.left ∧ r.left ≤ 4
  skid : ∀ k, s.fpuPending = some k → k ≤ s.platform.fpuExcSkid

theorem State.slotGuarded_iff (s : State) :
    s.slotGuarded = true ↔ (s.slot ≠ none → s.intInhibit = true ∧ s.mode ≠ .asleep) := by
  cases hs : s.slot <;> simp [State.slotGuarded, hs]

theorem State.skidBounded_iff (s : State) :
    s.skidBounded = true ↔ ∀ k, s.fpuPending = some k → k ≤ s.platform.fpuExcSkid := by
  cases hk : s.fpuPending <;> simp [State.skidBounded, hk]

theorem State.inv_iff_sound (s : State) : s.Inv = true ↔ s.Sound := by
  simp only [State.Inv, Bool.and_eq_true, Bool.not_eq_true', s.slotGuarded_iff, s.skidBounded_iff, State.storesRecent,
    List.all_eq_true, decide_eq_true_eq]
  constructor
  · rintro ⟨⟨⟨⟨hmem, hslot⟩, hbus⟩, hrecent⟩, hskid⟩
    exact ⟨hmem, hslot, hbus, hrecent, hskid⟩
  · rintro ⟨hmem, hslot, hbus, hrecent, hskid⟩
    exact ⟨⟨⟨⟨hmem, hslot⟩, hbus⟩, hrecent⟩, hskid⟩

/-! ## The operations -/

theorem State.Sound.busTurn {s : State} (h : s.Sound) : s.busTurn.Sound :=
  { h with
    memory := by
      rw [State.mem_busTurn]
      split
      · exact h.memory
      · exact Memory.wf_writeCells _ _ h.memory }

theorem State.Sound.poke {s : State} (h : s.Sound) {w : Width} {a : Word} (v : Word)
    (ha : a.toNat % widthBytes w = 0) : (s.poke w a v).Sound :=
  { h with
    memory := Memory.wf_writeWidth _ w a v h.memory ha
    recent := by
      rw [State.recent_poke]
      exact List.forall_mem_cons.mpr ⟨by simp, h.recent⟩ }

theorem sturdy_sound : Sturdy State.Sound where
  busTurn _ h := h.busTurn
  poke _ _ _ v ha h := h.poke v ha
  enter _ _ _ _ h := { h with guarded := by simp }
  doubleFault _ h := { h with guarded := fun hs => ⟨(h.guarded hs).1, by simp⟩ }

theorem chooseSkid_le (bound draw : Nat) : chooseSkid bound draw ≤ bound := by
  unfold chooseSkid
  split
  · omega
  · exact Nat.le_of_lt_succ (Nat.mod_lt _ (by omega))

/-! ## Every instruction -/

/-- The invariant, in a form that one instruction keeps: where the instruction may leave a delay slot pending, the CPU does
not sleep. -/
structure State.SoundFor (i : Instr) (s : State) : Prop extends State.Sound s where
  awake : i.rewritesPc = true → s.mode ≠ .asleep

theorem sturdy_soundFor (i : Instr) : Sturdy (State.SoundFor i) where
  busTurn _ h := { h.toSound.busTurn with awake := h.awake }
  poke _ _ _ v ha h := { h.toSound.poke v ha with awake := h.awake }
  enter s sp r pc h := { sturdy_sound.enter s sp r pc h.toSound with awake := h.awake }
  doubleFault s h := { sturdy_sound.doubleFault s h.toSound with awake := by simp }

theorem keptBy_soundFor (i : Instr) : KeptBy i (State.SoundFor i) where
  busTurn := (sturdy_soundFor i).busTurn
  poke := (sturdy_soundFor i).poke
  unlock _ h := { h with busFree := rfl }
  setReg _ _ _ h := { h with }
  goOn _ _ h := { h with guarded := by simp }
  inhibit _ h := { h with guarded := fun hs => ⟨rfl, (h.guarded hs).2⟩ }
  enter s v spc h t ht := (sturdy_soundFor i).enterAny s t v spc none h ht
  addressError s spc h t ht := (sturdy_soundFor i).enterAddressError s t spc h ht
  delay hi _ _ _ h := { h with guarded := fun _ => ⟨rfl, h.awake hi⟩ }
  sleep hi _ h := { h with guarded := by simp, awake := by simp [hi, Instr.rewritesPc] }
  setT _ _ _ h := { h with }
  divide _ _ _ _ _ h := { h with }
  loadSr _ _ _ h := { h with }
  setMac _ _ _ _ h := { h with }
  setPr _ _ _ h := { h with }
  setGbr _ _ _ h := { h with }
  setVbr _ _ _ h := { h with }
  setFpu _ _ _ _ _ h := { h with }
  raiseFpu _ s h := { h with skid := fun _ hk => Option.some.inj hk ▸ chooseSkid_le _ s.free }

theorem State.Sound.exec {s : State} (i : Instr) (h : s.Sound) (hmode : s.mode ≠ .asleep) :
    Answers State.Sound (exec i s) := by
  intro t ht
  have hfor : State.SoundFor i s := { h with awake := fun _ => hmode }
  exact ((keptBy_soundFor i).exec i hfor t ht).toSound

theorem State.Sound.executeCode {s : State} (h : s.Sound) (hmode : s.mode ≠ .asleep) (code : Half) :
    Answers State.Sound (s.executeCode code) := by
  intro t ht
  cases hd : decodeWord code with
  | some i => exact h.exec i hmode t (s.executeCode_of_decoded code i hd ▸ ht)
  | none => exact sturdy_sound.raiseIllegal s t h (s.executeCode_of_undecoded code hd ▸ ht)

/-! ## The fetch -/

/-- One fetch later the recent stores are still of the last four fetches (decision D15). -/
theorem left_of_mem_ageStores (l : List StoreRecord) (h : ∀ r ∈ l, 1 ≤ r.left ∧ r.left ≤ 4) :
    ∀ r ∈ ageStores l, 1 ≤ r.left ∧ r.left ≤ 4 := by
  induction l with
  | nil => exact h
  | cons r rest ih =>
    obtain ⟨hr, hrest⟩ := List.forall_mem_cons.mp h
    unfold ageStores
    split
    · exact ih hrest
    · exact List.forall_mem_cons.mpr ⟨by dsimp only; omega, ih hrest⟩

theorem State.Sound.afterFetch {s : State} (h : s.Sound) : s.afterFetch.Sound :=
  { h with
    recent := left_of_mem_ageStores s.recent h.recent
    skid := by
      intro k hk
      obtain ⟨k', hk', rfl⟩ := Option.map_eq_some_iff.mp hk
      exact (Nat.sub_le k' 1).trans (h.skid k' hk') }

/-- All a fetch can do: the other bus masters had their turn. -/
theorem State.fetch_ok (s : State) (r : State × Half) (h : s.fetch = .ok r) :
    r = (s.busTurn, s.busTurn.fetchedCode s.pc.toNat) := by
  unfold State.fetch at h
  split at h
  · injection h with h
    exact h.symm
  all_goals contradiction

theorem State.Sound.executeNext {s : State} (h : s.Sound) (hmode : s.mode ≠ .asleep) :
    Answers State.Sound s.executeNext := by
  unfold State.executeNext
  split
  · next s' code hf =>
    obtain ⟨rfl, rfl⟩ := Prod.mk.inj (s.fetch_ok _ hf)
    exact h.busTurn.afterFetch.executeCode hmode _
  · exact fun t ht => sturdy_sound.enterAddressError s t s.pc h ht
  · exact answers_fault _ _
  · exact answers_refused _ _

/-! ## Events -/

theorem State.Sound.enterFpu {s : State} (h : s.Sound) : Answers State.Sound s.enterFpu := by
  intro t ht
  have hwoken : State.Sound { s with fpuPending := none, mode := .running } :=
    { h with
      guarded := fun hs => ⟨(h.guarded hs).1, by simp⟩
      skid := by simp }
  exact sturdy_sound.enterAny _ t 13#8 s.pc none hwoken ht

theorem State.Sound.enterIrq {s : State} (h : s.Sound) (r : IrqRequest) : Answers State.Sound (s.enterIrq r) := by
  intro t ht
  have hwoken : State.Sound { s with irq := s.irq.erase r, mode := .running } :=
    { h with guarded := fun hs => ⟨(h.guarded hs).1, by simp⟩ }
  exact sturdy_sound.enterAny _ t _ s.pc _ hwoken ht

/-- All a boundary can accept: the pending FPU exception or a request (rule R545). -/
theorem State.boundaryEvent_cases (s : State) (r : Result) (h : s.boundaryEvent = some r) :
    r = s.enterFpu ∨ ∃ q, r = s.enterIrq q := by
  unfold State.boundaryEvent at h
  split at h
  · split at h
    · exact .inl (Option.some.inj h).symm
    · obtain ⟨q, -, hq⟩ := Option.map_eq_some_iff.mp h
      exact .inr ⟨q, hq.symm⟩
  · contradiction

theorem State.Sound.runStep {s : State} (h : s.Sound) (hmode : s.mode ≠ .asleep) : Answers State.Sound s.runStep := by
  unfold State.runStep
  split
  · next r hr =>
    rcases s.boundaryEvent_cases r hr with rfl | ⟨q, rfl⟩
    · exact h.enterFpu
    · exact h.enterIrq q
  · exact h.executeNext hmode

theorem State.Sound.sleepStep {s : State} (h : s.Sound) : Answers State.Sound s.sleepStep := by
  unfold State.sleepStep
  split
  · exact h.enterFpu
  · split
    · exact h.enterIrq _
    · exact (answers_next _ s).mpr h

theorem State.Sound.cpuStep {s : State} (h : s.Sound) : Answers State.Sound s.cpuStep := by
  unfold State.cpuStep
  split
  · next hm => exact h.runStep (by simp [hm])
  · exact h.sleepStep
  · exact (answers_next _ s).mpr h

@[simp] theorem State.mem_afterReset (s : State) (pc sp : Word) : (s.afterReset pc sp).mem = s.mem := by
  unfold State.afterReset; rfl

@[simp] theorem State.recent_afterReset (s : State) (pc sp : Word) : (s.afterReset pc sp).recent = s.recent := by
  unfold State.afterReset; rfl

@[simp] theorem State.slot_afterReset (s : State) (pc sp : Word) : (s.afterReset pc sp).slot = none := rfl

@[simp] theorem State.fpuPending_afterReset (s : State) (pc sp : Word) : (s.afterReset pc sp).fpuPending = none := rfl

theorem State.Sound.afterReset {s : State} (h : s.Sound) (pc sp : Word) : (s.afterReset pc sp).Sound where
  memory := by simpa using h.memory
  guarded := by simp
  busFree := rfl
  recent := by simpa using h.recent
  skid := by simp

theorem State.Sound.resetSequence {s : State} (h : s.Sound) (k : ResetKind) :
    Answers State.Sound (s.resetSequence k) := by
  unfold State.resetSequence
  split
  case h_4 s1 pc h1 =>
    obtain ⟨rfl, -⟩ := Prod.mk.inj (s.load_ok _ _ _ h1).2
    split
    case h_4 s2 sp h2 =>
      obtain ⟨rfl, -⟩ := Prod.mk.inj (State.load_ok _ _ _ _ h2).2
      exact (answers_next _ _).mpr (h.busTurn.busTurn.afterReset pc sp)
    all_goals simp
  all_goals simp

theorem State.Sound.absorbed {s : State} (h : s.Sound) : (absorbed s).Sound := by
  unfold Says.absorbed
  split <;> exact { h with }

/-! ## O56 and O57 -/

/-- Settles O56: memory lists nothing, and nothing is pending. -/
theorem resetInvariant : Obligations.ResetInvariant := by
  refine (State.inv_iff_sound _).mpr ⟨rfl, ?slot, rfl, ?stores, ?skid⟩
  case slot => simp [State.reset]
  case stores => simp [State.reset]
  case skid => simp [State.reset]

/-- Settles O57: the platform's turn, a reset event, and each processing state keep the invariant. -/
theorem stepKeepsInvariant : Obligations.StepKeepsInvariant := by
  intro s t hs ht
  have habs : s.absorb.1.Sound := by
    rw [s.absorb_fst]
    exact ((State.inv_iff_sound s).mp hs).absorbed
  refine (State.inv_iff_sound t).mpr ?_
  unfold step at ht
  split at ht
  · next s' k he =>
    rw [he] at habs
    exact habs.resetSequence k t ht
  · next s' he =>
    rw [he] at habs
    exact habs.cpuStep t ht

end Sys2Proof.Machine
end

section
/-! SUPPORT. The reset sequence, the values right after reset, and SR and FPSCR as 32-bit values. -/

namespace Sys2Proof.Machine

open Sys2Proof.Config Sys2Proof.Says

/-! ## Reset -/

/-- A longword read from memory is the number its four bytes make (rule R61). -/
theorem Memory.readWidth_long_toNat (m : Memory) (a : Nat) : (m.readWidth .long a).toNat = bytesValue m a 4 := by
  simp only [Memory.readWidth, Memory.read32_toNat, bytesValue, Nat.add_zero]
  omega

/-- The platform's turn before a step that a reset event begins. -/
theorem State.absorb_of_reset (s : State) (p : PlatformInput) (rest : List PlatformInput) (k : ResetKind)
    (hin : s.inputs = p :: rest) (hp : p.reset = some k) : s.absorb = (absorbed s, some k) :=
  Prod.ext s.absorb_fst (by simp [State.absorb, hin, hp])

/-- Where both longwords of the reset vector can be read, the sequence leaves PC and SP as read there (rule R570). -/
theorem State.resetSequence_of_accessible (s : State) (k : ResetKind)
    (hpc : Accessible s .read .long (resetVector s.platform k))
    (hsp : Accessible s .read .long (resetVector s.platform k + 4#32)) :
    s.resetSequence k = .next (s.busTurn.busTurn.afterReset
      (s.busTurn.mem.readWidth .long (resetVector s.platform k).toNat)
      (s.busTurn.busTurn.mem.readWidth .long (resetVector s.platform k + 4#32).toNat)) := by
  have hload := s.load_of_accessible .long _ hpc
  have hload' := s.busTurn.load_of_accessible .long _ hsp
  simp only [State.resetSequence, hload, hload']

theorem State.reg15_afterReset (s : State) (pc sp : Word) : (s.afterReset pc sp).reg 15 = sp := by
  simp [State.reg, State.afterReset]

theorem State.fpscr_afterReset (s : State) (pc sp : Word) : fpscrWord (s.afterReset pc sp).fpscr = 0x00040001#32 := by
  have h : (s.afterReset pc sp).fpscr = Fpscr.ofWord 0x00040001#32 := rfl
  rw [h]
  decide

/-- Settles O43: the platform's turn answers the reset, and the reset sequence finds both longwords of the vector. -/
theorem resetEvent : Obligations.ResetEvent := by
  intro s p rest k hin hp vector hpc hsp s1 s2
  have hvec : resetVector s.platform k = vector := by cases k <;> rfl
  have habs : absorbed s = { s with inputs := rest, irq := p.irq, fpuStopped := p.fpuStopped, bus := p.busWrites } := by
    simp [absorbed, hin]
  have hseq := (absorbed s).resetSequence_of_accessible k
    (by simpa only [hvec, Accessible, platform_absorbed] using hpc)
    (by simpa only [hvec, Accessible, platform_absorbed] using hsp)
  rw [platform_absorbed, hvec] at hseq
  refine ⟨_, by simpa only [step, s.absorb_of_reset p rest k hin hp] using hseq, ?_⟩
  refine ⟨Memory.readWidth_long_toNat _ _, ?sp, rfl, rfl, State.fpscr_afterReset _ _ _, rfl, rfl, rfl, rfl, rfl, rfl,
    State.mem_afterReset _ _ _, ?platform, ?irq, ?inputs⟩
  case sp => rw [State.reg15_afterReset, Memory.readWidth_long_toNat]
  case platform => simp [State.afterReset]
  case irq => simp [State.afterReset, habs]
  case inputs => simp [State.afterReset, habs]

/-- Settles O44: the values that rules R40, R41 and R573 give stand in `State.reset`. -/
theorem resetState : Obligations.ResetState := by
  refine ⟨rfl, rfl, rfl, ?fpscr, rfl, rfl, rfl, rfl, rfl⟩
  case fpscr => decide

/-! ## SR and FPSCR as words -/

/-- SR keeps the bits of the mask H'000003F3 of what is written to it (rule R25). -/
theorem Sr.toWord_ofWord (w : Word) : (Sr.ofWord w).toWord = w &&& 0x000003F3#32 := by
  refine BitVec.eq_of_getLsbD_eq fun k hk => ?_
  simp only [Sr.toWord, Sr.ofWord, BitVec.getLsbD_append, BitVec.getLsbD_and]
  interval_cases k <;> simp

/-- FPSCR keeps the bits of the mask H'00018C60, and DN and RM read as fixed (rule R36). -/
theorem Fpscr.toWord_ofWord (w : Word) :
    (Fpscr.ofWord w).toWord = w &&& 0x00018C60#32 ||| 0x00040001#32 := by
  refine BitVec.eq_of_getLsbD_eq fun k hk => ?_
  simp only [Fpscr.toWord, Fpscr.ofWord, BitVec.getLsbD_append, BitVec.getLsbD_and, BitVec.getLsbD_or]
  interval_cases k <;> simp

/-- The mask I is the field of bits 7 to 4 (rule R25). -/
theorem Sr.mask_toWord (r : Sr) : r.toWord.extractLsb' 4 4 = r.i := by
  refine BitVec.eq_of_getLsbD_eq fun k hk => ?_
  simp only [Sr.toWord, BitVec.getLsbD_extractLsb', BitVec.getLsbD_append]
  interval_cases k <;> simp

theorem Sr.ofWord_toWord (r : Sr) : Sr.ofWord r.toWord = r := by
  simp only [Sr.ofWord, r.mask_toWord]
  obtain ⟨m, q, i, s, t⟩ := r
  simp only [Sr.toWord, BitVec.getLsbD_append]
  simp

theorem Fpscr.ofWord_toWord (r : Fpscr) : Fpscr.ofWord r.toWord = r := by
  obtain ⟨cv, cz, ev, ez, fv, fz⟩ := r
  simp only [Fpscr.toWord, Fpscr.ofWord, BitVec.getLsbD_append]
  simp

theorem Sr.toWord_eq_srWord (r : Sr) : r.toWord = srWord r := by
  obtain ⟨m, q, i, s, t⟩ := r
  revert m q i s t
  decide

theorem Fpscr.toWord_eq_fpscrWord (r : Fpscr) : r.toWord = fpscrWord r := by
  obtain ⟨cv, cz, ev, ez, fv, fz⟩ := r
  revert cv cz ev ez fv fz
  decide

/-- Settles O45: the two registers as words, read after a write and written back. -/
theorem statusWords : Obligations.StatusWords :=
  ⟨fun w => ⟨Sr.toWord_ofWord w, Fpscr.toWord_ofWord w⟩,
    fun r => ⟨r.ofWord_toWord, r.toWord_eq_srWord⟩,
    fun r => ⟨r.ofWord_toWord, r.toWord_eq_fpscrWord⟩⟩

end Sys2Proof.Machine
end

section
/-! SUPPORT. Data accesses in the words of the statements: big-endian values, stored bytes, and the turn of other bus
masters. -/

namespace Sys2Proof.Machine

open Sys2Proof.Config Sys2Proof.Says

/-! ## The turn of other bus masters -/

/-- An address reads the last byte written to it (decision D16), and as before where nothing wrote to it. -/
theorem Memory.read_writeCells (m : Memory) (cells : List Host.Cell) (c : Nat) :
    (m.writeCells cells).read c =
      match cells.reverse.find? (fun e => e.1 % 2 ^ 32 = c) with
      | some e => e.2
      | none => m.read c := by
  induction cells generalizing m with
  | nil => rfl
  | cons e rest ih =>
    obtain ⟨a, b⟩ := e
    rw [Memory.writeCells, ih, List.reverse_cons, List.find?_append]
    cases hrest : rest.reverse.find? (fun e => e.1 % 2 ^ 32 = c) with
    | some e' => rfl
    | none =>
      by_cases ha : a % 2 ^ 32 = c
      · subst ha; simp
      · rw [Memory.read_write_ne m b (Ne.symm ha)]
        simp only [List.find?_singleton, Option.none_or, ha, decide_false, Bool.false_eq_true, if_false]

/-- Settles O60: the turn is the next entry's bytes written in order, and nothing where there is no turn. -/
theorem otherMastersWriteBetweenAccesses : Obligations.OtherMastersWriteBetweenAccesses := by
  intro s
  refine ⟨rfl, fun h => ?noTurn, fun writes rest hlock hbus => ⟨?left, fun c => ?reads⟩⟩
  case noTurn =>
    rcases h with hlock | hbus
    · exact s.busTurn_of_busLock hlock
    · exact s.busTurn_of_bus_nil hbus
  case left => simp [hlock, hbus]
  case reads =>
    have hmem : s.busTurn.mem = s.mem.writeCells writes := by simp [hlock, hbus]
    rw [hmem]
    exact s.mem.read_writeCells writes c

/-! ## Effective addresses -/

/-- A displacement is zero-extended and scaled by the size of the access (rule R97). -/
theorem setWidth_mul_sizeWord {k : Nat} (d : BitVec k) (w : Width) :
    d.setWidth 32 * sizeWord w = BitVec.ofNat 32 (d.toNat * widthBytes w) := by
  refine BitVec.eq_of_toNat_eq ?_
  have hsize : (sizeWord w).toNat = widthBytes w := by cases w <;> rfl
  rw [BitVec.toNat_mul, BitVec.toNat_setWidth, hsize, BitVec.toNat_ofNat, Nat.mod_mul_mod]

theorem eaDisp_eq (s : State) (w : Width) (n : Reg) (d : BitVec 4) :
    eaDisp s w n d = s.reg n + BitVec.ofNat 32 (d.toNat * widthBytes w) := by
  rw [eaDisp, setWidth_mul_sizeWord]

theorem eaGbr_eq (s : State) (w : Width) (d : BitVec 8) :
    eaGbr s w d = s.gbr + BitVec.ofNat 32 (d.toNat * widthBytes w) := by
  rw [eaGbr, setWidth_mul_sizeWord]

theorem eaPcWord_eq (s : State) (d : BitVec 8) :
    eaPcWord s d = pcOperand s + BitVec.ofNat 32 (d.toNat * 2) :=
  congrArg (s.pcVal + ·) (setWidth_mul_sizeWord d .word)

/-! ## Loads -/

/-- Sign extension takes a number of `k` bits to its two's complement value. -/
theorem signExtend_eq_ofInt_signed {k : Nat} (v : BitVec k) :
    v.signExtend 32 = BitVec.ofInt 32 (signed k v.toNat) := by
  have hhalf : v.toNat < 2 ^ (k - 1) ↔ 2 * v.toNat < 2 ^ k := by
    cases k with
    | zero => simp
    | succ k => rw [Nat.add_sub_cancel, Nat.pow_succ]; omega
  rw [BitVec.signExtend, BitVec.toInt_eq_toNat_cond, signed]
  simp only [hhalf]
  push_cast
  rfl

/-- What a load of `R[n]` leaves in it is the big-endian value, sign-extended (rules R61, R66). -/
theorem extendLoaded_readWidth (m : Memory) (w : Width) (a : Nat) :
    extendLoaded w (m.readWidth w a) = loaded m w a := by
  cases w with
  | byte =>
    have hlow : lowByte (m.readWidth .byte a) = m.read a := by
      rw [lowByte, Memory.readWidth, BitVec.extractLsb'_setWidth_of_le (by decide), BitVec.extractLsb'_eq_self]
    rw [extendLoaded, hlow, sext8, signExtend_eq_ofInt_signed]
    simp [loaded, bytesValue, widthBytes]
  | word =>
    have hlow : lowHalf (m.readWidth .word a) = m.read16 a := by
      rw [lowHalf, Memory.readWidth, BitVec.extractLsb'_setWidth_of_le (by decide), BitVec.extractLsb'_eq_self]
    rw [extendLoaded, hlow, sext16, signExtend_eq_ofInt_signed, Memory.read16_toNat_eq_bytesValue]
    rfl
  | long =>
    rw [extendLoaded, ← BitVec.signExtend_eq (x := m.readWidth .long a), signExtend_eq_ofInt_signed,
      Memory.readWidth_long_toNat]
    rfl

/-- An instruction that loads `R[n]` from an effective address. -/
theorem loadsInto_of_loadReg {i : Instr} {w : Width} {a ea : State → Word} {n : Reg}
    (hi : ∀ s, exec i s = s.loadReg w (a s) n) (hea : ∀ s, a s = ea s) :
    LoadsInto i w ea always (fun s v => wrote s n v) := by
  intro s _ ha
  rw [hi, hea, State.loadReg, s.withLoad_of_accessible w (ea s) _ ha, extendLoaded_readWidth]
  rfl

/-- Settles O9: each of the twelve is `State.loadReg` at its effective address. -/
theorem loads : Obligations.Loads := by
  intro m n d e
  refine ⟨?_, ?_, ?_, ?_, ?_, ?_, ?_, ?_, ?_, ?_, ?_, ?_⟩
  -- `@Rm`, `@(disp,Rm)`, `@(R0,Rm)` and `@(disp,GBR)`, each for the three widths
  iterate 3 exact loadsInto_of_loadReg (fun _ => rfl) fun _ => rfl
  iterate 3 exact loadsInto_of_loadReg (fun _ => rfl) fun s => eaDisp_eq s _ m d
  iterate 3 exact loadsInto_of_loadReg (fun _ => rfl) fun _ => rfl
  iterate 3 exact loadsInto_of_loadReg (fun _ => rfl) fun s => eaGbr_eq s _ e

/-! ## Stores -/

/-- The bytes of a stored value stand in memory with the most significant one first (rule R61). -/
theorem Memory.read_writeWidth (m : Memory) (w : Width) (a k : Nat) (v : Word) (hk : k < widthBytes w) :
    ((m.writeWidth w a v).read (a + k)).toNat = v.toNat / 256 ^ (widthBytes w - 1 - k) % 256 := by
  cases w <;> simp only [widthBytes] at hk
  all_goals
    interval_cases k <;>
      simp [Memory.writeWidth, Memory.write16, Memory.write32, Memory.read_write, widthBytes, Nat.shiftRight_eq_div_pow]

/-- A store leaves the bytes of the value at the address and every other address as before. -/
theorem State.stored_poke (s : State) (w : Width) (a v : Word) : Stored s (s.poke w a v) w a v.toNat :=
  ⟨fun k hk => s.mem.read_writeWidth w a.toNat k v hk, fun c hc => s.mem.read_writeWidth_outside w a.toNat c v hc⟩

/-- An instruction that stores at an effective address. -/
theorem storesAt_of_storeAt {i : Instr} {w : Width} {a ea v : State → Word}
    (hi : ∀ s, exec i s = s.storeAt w (a s) (v s)) (hea : ∀ s, a s = ea s) : StoresAt i w ea always v moved := by
  intro s _ ha
  refine ⟨(s.busTurn.poke w (ea s) (v s)).advance, ?_, rfl, s.busTurn.stored_poke w (ea s) (v s)⟩
  rw [hi, hea, State.storeAt, s.withStore_of_accessible w (ea s) (v s) _ ha]
  rfl

/-- Settles O10: each of the twelve is `State.storeAt` at its effective address. -/
theorem stores : Obligations.Stores := by
  intro m n d e
  refine ⟨?_, ?_, ?_, ?_, ?_, ?_, ?_, ?_, ?_, ?_, ?_, ?_⟩
  -- `@Rn`, `@(disp,Rn)`, `@(R0,Rn)` and `@(disp,GBR)`, each for the three widths
  iterate 3 exact storesAt_of_storeAt (fun _ => rfl) fun _ => rfl
  iterate 3 exact storesAt_of_storeAt (fun _ => rfl) fun s => eaDisp_eq s _ n d
  iterate 3 exact storesAt_of_storeAt (fun _ => rfl) fun _ => rfl
  iterate 3 exact storesAt_of_storeAt (fun _ => rfl) fun s => eaGbr_eq s _ e

end Sys2Proof.Machine
end

section
/-! SUPPORT. Accesses that fail: the misaligned first access of an instruction, and the fetch. -/

namespace Sys2Proof.Machine

open Sys2Proof.Config Sys2Proof.Says

/-! ## The first access -/

/-- An instruction that begins with an access of this width to this address, whatever it does after it. -/
inductive BeginsWith (s : State) (w : Width) (a : Word) : Result → Prop where
  | load (body : State → Word → Result) : BeginsWith s w a (s.withLoad w a body)
  | store (v : Word) (body : State → Result) : BeginsWith s w a (s.withStore w a v body)

theorem BeginsWith.misaligned {s : State} {w : Width} {a : Word} {r : Result} (h : BeginsWith s w a r)
    (ha : a.toNat % widthBytes w ≠ 0) : r = s.raiseAddressError := by
  cases h with
  | load body => exact s.withLoad_misaligned w a body ha
  | store v body => exact s.withStore_misaligned w a v body ha

theorem BeginsWith.loadLongInc (s : State) (m : Reg) (put : State → Word → State) (body : State → Result) :
    BeginsWith s .long (s.reg m) (s.andThen (s.loadLongInc m put) body) := by
  rw [State.andThen_loadLongInc]
  exact .load _

theorem BeginsWith.storeLongDec (s : State) (n : Reg) (v : Word) (body : State → Result) :
    BeginsWith s .long (s.reg n - 4#32) (s.andThen (s.storeLongDec n v) body) := by
  rw [State.andThen_storeLongDec]
  exact .store _ _

theorem BeginsWith.withFpu {s : State} {w : Width} {a : Word} {r : Result} (hready : FpuReady s)
    (h : BeginsWith s w a r) : BeginsWith s w a (s.withFpu r) := by
  obtain ⟨hrun, hidle⟩ := hready
  rwa [s.withFpu_of_ready r hrun hidle]

theorem BeginsWith.returnFromException (s : State) (hslot : s.slot = none) :
    BeginsWith s .long (s.reg 15) (exec .rte s) := by
  have hexec : exec .rte s = s.outsideSlot s.returnFromException := rfl
  rw [hexec, s.outsideSlot_of_no_slot _ hslot, State.returnFromException_eq]
  exact .load _

/-- `firstAccess` names the access that the instruction begins with (rule R67). -/
theorem exec_beginsWith_firstAccess (i : Instr) (s : State) (w : Width) (a : Word) (h : firstAccess i s = some (w, a))
    (hfpu : i.usesFpu = true → FpuReady s) : BeginsWith s w a (exec i s) := by
  cases i with
  -- a register indirect, pre-decremented or indexed operand
  | movWLoad | movLLoad | movWPostInc | movLPostInc | movWLoadR0 | movLLoadR0 | macL | macW =>
    cases h; exact .load _
  | movWStore | movLStore | movWPreDec | movLPreDec | movWStoreR0 | movLStoreR0 =>
    cases h; exact .store _ _
  -- a displacement
  | movWLoadDisp d m => cases h; exact eaDisp_eq s .word m d ▸ .load _
  | movLLoadDisp d m => cases h; exact eaDisp_eq s .long m d ▸ .load _
  | movWStoreDisp d n => cases h; exact eaDisp_eq s .word n d ▸ .store _ _
  | movLStoreDisp m d n => cases h; exact eaDisp_eq s .long n d ▸ .store _ _
  | movWLoadGbr d => cases h; exact eaGbr_eq s .word d ▸ .load _
  | movLLoadGbr d => cases h; exact eaGbr_eq s .long d ▸ .load _
  | movWStoreGbr d => cases h; exact eaGbr_eq s .word d ▸ .store _ _
  | movLStoreGbr d => cases h; exact eaGbr_eq s .long d ▸ .store _ _
  | movWPc d => cases h; exact eaPcWord_eq s d ▸ .load _
  -- control and system registers
  | ldcLSr | ldcLGbr | ldcLVbr | ldsLMach | ldsLMacl | ldsLPr => cases h; exact .loadLongInc ..
  | stcLSr | stcLGbr | stcLVbr | stsLMach | stsLMacl | stsLPr => cases h; exact .storeLongDec ..
  | rte =>
    simp only [firstAccess] at h
    split at h
    · cases h; exact .returnFromException s ‹_›
    · contradiction
  -- the FPU
  | ldsLFpscr | ldsLFpul | fmovPostInc => cases h; exact .withFpu (hfpu rfl) (.loadLongInc ..)
  | stsLFpscr | stsLFpul | fmovPreDec => cases h; exact .withFpu (hfpu rfl) (.storeLongDec ..)
  | fmovLoad | fmovLoadR0 => cases h; exact .withFpu (hfpu rfl) (.load _)
  | fmovStore | fmovStoreR0 => cases h; exact .withFpu (hfpu rfl) (.store _ _)
  | _ => contradiction

/-! ## Entries that cannot begin -/

theorem State.tryEnter_misaligned (s : State) (v : BitVec 8) (spc : Word) (mask : Option (BitVec 4))
    (h : (s.reg 15 - 4#32).toNat % 4 ≠ 0) : s.tryEnter v spc mask = .addressError s := by
  rw [State.tryEnter, s.store_misaligned .long _ _ h]

theorem State.enterAddressError_misaligned (s : State) (spc : Word) (h : (s.reg 15 - 4#32).toNat % 4 ≠ 0) :
    s.enterAddressError spc = .next { s with mode := .doubleFault } := by
  rw [State.enterAddressError, s.tryEnter_misaligned _ _ _ h]

/-- Where the frame cannot be stored at all, taking an exception changes nothing but the mode (rule R534). -/
theorem State.enter_misaligned (s : State) (v : BitVec 8) (spc : Word) (mask : Option (BitVec 4))
    (h : (s.reg 15 - 4#32).toNat % 4 ≠ 0) : s.enter v spc mask = .next { s with mode := .doubleFault } := by
  rw [State.enter, s.tryEnter_misaligned _ _ _ h]
  exact s.enterAddressError_misaligned spc h

theorem exec_trapa_of_no_slot (i : BitVec 8) (s : State) (h : s.slot = none) :
    exec (.trapa i) s = s.enter i (s.pc + 2#32) none :=
  s.outsideSlot_of_no_slot _ h

/-! ## The fetch -/

/-- A fetch is an address error where PC is odd or the platform forbids it (rules R64, R516, decision D7). -/
theorem State.fetch_addressError (s : State)
    (h : s.pc.toNat % 2 ≠ 0 ∨ backingOf s.platform.memMap .fetch .word s.pc.toNat = .addressError) :
    s.fetch = .addressError := by
  have hcheck : checkAccess s.platform.memMap .fetch .word s.pc = .addressError := by
    by_cases halign : s.pc.toNat % widthBytes .word = 0
    · have hmap := h.resolve_left (not_not_intro halign)
      simp [checkAccess, halign, hmap]
    · exact checkAccess_misaligned _ _ _ _ halign
  rw [State.fetch, hcheck]

theorem State.executeNext_addressError (s : State)
    (h : s.pc.toNat % 2 ≠ 0 ∨ backingOf s.platform.memMap .fetch .word s.pc.toNat = .addressError) :
    s.executeNext = s.enterAddressError s.pc := by
  rw [State.executeNext, s.fetch_addressError h]
  rfl

/-- Settles O39: the instruction begins with the access that fails, and a step with the fetch. -/
theorem misalignedAccessesTrap : Obligations.MisalignedAccessesTrap := by
  intro s
  refine ⟨fun i w a hfirst ha hfpu => ?access, fun i hslot h15 => ?trapa, fun hs hpc => ?fetch⟩
  case access => exact (exec_beginsWith_firstAccess i s w a hfirst hfpu).misaligned ha
  case trapa => rw [exec_trapa_of_no_slot i s hslot, s.enter_misaligned _ _ _ h15]
  case fetch =>
    rw [step_of_continues s hs, State.executeNext_addressError, pc_absorbed]
    simpa using hpc

end Sys2Proof.Machine
end

section
/-! SUPPORT. What the entry of an exception leaves: the frame in memory, and the state an entry that fails stops in. -/

namespace Sys2Proof.Machine

open Sys2Proof.Config Sys2Proof.Says

/-! ## Longwords in memory as numbers -/

theorem bytesValue_four (m : Memory) (a : Nat) :
    bytesValue m a 4 = (((m.read a).toNat * 256 + (m.read (a + 1)).toNat) * 256 + (m.read (a + 2)).toNat) * 256
      + (m.read (a + 3)).toNat := by
  simp [bytesValue]

/-- A stored longword is the number its four bytes make (rule R61). -/
theorem bytesValue_of_stored {s t : State} {a v : Word} (h : Stored s t .long a v.toNat) :
    bytesValue t.mem a.toNat 4 = v.toNat := by
  have hv := v.isLt
  have h0 := h.1 0 (by decide)
  have h1 := h.1 1 (by decide)
  have h2 := h.1 2 (by decide)
  have h3 := h.1 3 (by decide)
  simp only [widthBytes, Nat.add_zero] at h0 h1 h2 h3
  rw [bytesValue_four, h0, h1, h2, h3]
  omega

theorem bytesValue_four_congr {m m' : Memory} {a : Nat} (h : ∀ k < 4, m'.read (a + k) = m.read (a + k)) :
    bytesValue m' a 4 = bytesValue m a 4 := by
  have h0 := h 0 (by decide)
  rw [Nat.add_zero] at h0
  rw [bytesValue_four, bytesValue_four, h0, h 1 (by decide), h 2 (by decide), h 3 (by decide)]

/-! ## The frame -/

/-- Between `m` and `m'` nothing changes outside the two words of a frame below `sp`. -/
def SameOutsideFrame (m m' : Memory) (sp : Word) : Prop :=
  ∀ c, (c < (sp - 4#32).toNat ∨ (sp - 4#32).toNat + 4 ≤ c) → (c < (sp - 8#32).toNat ∨ (sp - 8#32).toNat + 4 ≤ c) →
    m'.read c = m.read c

theorem SameOutsideFrame.refl (m : Memory) (sp : Word) : SameOutsideFrame m m sp := fun _ _ _ => rfl

theorem SameOutsideFrame.trans {m m' m'' : Memory} {sp : Word} (h : SameOutsideFrame m m' sp)
    (h' : SameOutsideFrame m' m'' sp) : SameOutsideFrame m m'' sp :=
  fun c h4 h8 => (h' c h4 h8).trans (h c h4 h8)

theorem SameOutsideFrame.frameStacked {m m' m'' : Memory} {sp spc : Word} {sr : Sr} (h : SameOutsideFrame m m' sp)
    (h' : FrameStacked m' m'' sp sr spc) : FrameStacked m m'' sp sr spc := by
  obtain ⟨hsr, hspc, houtside⟩ := h'
  exact ⟨hsr, hspc, h.trans houtside⟩

theorem State.pushedSr_eq_poke (s : State) :
    s.pushedSr = s.busTurn.poke .long (s.reg 15 - 4#32) (srWord s.sr) := by
  rw [State.pushedSr, Sr.toWord_eq_srWord]

/-! What the two stores of an entry leave as it was. -/

@[simp] theorem State.regs_pushedSr (s : State) : s.pushedSr.regs = s.regs := by simp [State.pushedSr]
@[simp] theorem State.slot_pushedSr (s : State) : s.pushedSr.slot = s.slot := by simp [State.pushedSr]
@[simp] theorem State.pc_pushedSr (s : State) : s.pushedSr.pc = s.pc := by simp [State.pushedSr]
@[simp] theorem State.platform_pushedSr (s : State) : s.pushedSr.platform = s.platform := by simp [State.pushedSr]
@[simp] theorem State.reg_pushedSr (s : State) (n : Reg) : s.pushedSr.reg n = s.reg n := by simp [State.pushedSr]

@[simp] theorem State.regs_pushedFrame (s : State) (spc : Word) : (s.pushedFrame spc).regs = s.regs := by
  simp [State.pushedFrame]
@[simp] theorem State.slot_pushedFrame (s : State) (spc : Word) : (s.pushedFrame spc).slot = s.slot := by
  simp [State.pushedFrame]
@[simp] theorem State.pc_pushedFrame (s : State) (spc : Word) : (s.pushedFrame spc).pc = s.pc := by
  simp [State.pushedFrame]
@[simp] theorem State.platform_pushedFrame (s : State) (spc : Word) : (s.pushedFrame spc).platform = s.platform := by
  simp [State.pushedFrame]
@[simp] theorem State.reg_pushedFrame (s : State) (spc : Word) (n : Reg) : (s.pushedFrame spc).reg n = s.reg n := by
  simp [State.pushedFrame]

theorem State.bus_pushedSr (s : State) (h : s.bus = []) : s.pushedSr.bus = [] := by
  simp [State.pushedSr, h]

theorem State.bus_pushedFrame (s : State) (spc : Word) (h : s.bus = []) : (s.pushedFrame spc).bus = [] := by
  simp [State.pushedFrame, s.bus_pushedSr h]

/-! What they store. -/

theorem State.storedThen_poke (s : State) (w : Width) (a v : Word) : StoredThen s (s.poke w a v) w a v.toNat s :=
  ⟨rfl, s.stored_poke w a v⟩

theorem State.storedThen_pushedSr (s : State) :
    StoredThen s.busTurn s.pushedSr .long (s.reg 15 - 4#32) (srWord s.sr).toNat s.busTurn := by
  rw [State.pushedSr_eq_poke]
  exact s.busTurn.storedThen_poke .long _ _

theorem State.storedThen_pushedFrame (s : State) (spc : Word) :
    StoredThen s.pushedSr.busTurn (s.pushedFrame spc) .long (s.reg 15 - 8#32) spc.toNat s.pushedSr.busTurn :=
  s.pushedSr.busTurn.storedThen_poke .long _ _

theorem State.stored_pushedSr (s : State) (hbus : s.bus = []) :
    Stored s s.pushedSr .long (s.reg 15 - 4#32) (srWord s.sr).toNat := by
  have h := s.storedThen_pushedSr.2
  rwa [s.busTurn_of_bus_nil hbus] at h

theorem State.stored_pushedFrame (s : State) (spc : Word) (hbus : s.bus = []) :
    Stored s.pushedSr (s.pushedFrame spc) .long (s.reg 15 - 8#32) spc.toNat := by
  have h := (s.storedThen_pushedFrame spc).2
  rwa [s.pushedSr.busTurn_of_bus_nil (s.bus_pushedSr hbus)] at h

theorem State.sameOutsideFrame_pushedSr (s : State) (h : s.bus = []) :
    SameOutsideFrame s.mem s.pushedSr.mem (s.reg 15) :=
  fun c h4 _ => (s.stored_pushedSr h).2 c h4

theorem State.sameOutsideFrame_pushedFrame (s : State) (spc : Word) (h : s.bus = []) :
    SameOutsideFrame s.mem (s.pushedFrame spc).mem (s.reg 15) :=
  (s.sameOutsideFrame_pushedSr h).trans fun c _ h8 => (s.stored_pushedFrame spc h).2 c h8

/-- The two words of a frame that can be stored do not overlap. -/
theorem frame_words_disjoint {sp : Word} (h4 : (sp - 4#32).toNat % 4 = 0) (h8 : (sp - 8#32).toNat % 4 = 0) (k : Nat)
    (hk : k < 4) : (sp - 4#32).toNat + k < (sp - 8#32).toNat ∨ (sp - 8#32).toNat + 4 ≤ (sp - 4#32).toNat + k := by
  have hsp := sp.isLt
  have e4 : (sp - 4#32).toNat = (2 ^ 32 - 4 + sp.toNat) % 2 ^ 32 := BitVec.toNat_sub ..
  have e8 : (sp - 8#32).toNat = (2 ^ 32 - 8 + sp.toNat) % 2 ^ 32 := BitVec.toNat_sub ..
  omega

/-- Where no other bus master writes, an entry changes memory in the two words of its frame alone (rule R530). -/
theorem State.frameStacked_pushedFrame (s : State) (spc : Word) (hbus : s.bus = [])
    (h4 : (s.reg 15 - 4#32).toNat % 4 = 0) (h8 : (s.reg 15 - 8#32).toNat % 4 = 0) :
    FrameStacked s.mem (s.pushedFrame spc).mem (s.reg 15) s.sr spc := by
  have hsr := s.stored_pushedSr hbus
  have hspc := s.stored_pushedFrame spc hbus
  refine ⟨?sr, bytesValue_of_stored hspc, s.sameOutsideFrame_pushedFrame spc hbus⟩
  case sr =>
    rw [← bytesValue_of_stored hsr]
    exact bytesValue_four_congr fun k hk => hspc.2 _ (frame_words_disjoint h4 h8 k hk)

/-! ## An entry that succeeds -/

theorem State.vectorAddr_eq (s : State) (v : BitVec 8) : s.vectorAddr v = s.vbr + BitVec.ofNat 32 (4 * v.toNat) := by
  rw [State.vectorAddr, BitVec.mul_comm, Nat.mul_comm]
  exact congrArg (s.vbr + ·) (setWidth_mul_sizeWord v .long)

/-- All an entry that succeeds can do. -/
theorem State.tryEnter_entered {s t : State} {v : BitVec 8} {spc : Word} {mask : Option (BitVec 4)}
    (h : s.tryEnter v spc mask = .entered t) :
    (s.reg 15 - 4#32).toNat % 4 = 0 ∧ (s.reg 15 - 8#32).toNat % 4 = 0 ∧
      t = { (s.pushedFrame spc).busTurn.setReg 15 (s.reg 15 - 8#32) with
            sr := s.sr.raiseMask mask
            pc := (s.pushedFrame spc).busTurn.mem.read32 (s.vectorAddr v).toNat
            slot := none
            intInhibit := false } := by
  have ho := s.tryEnter_outcome v spc mask
  rw [h] at ho
  cases ho with
  | entered h4 h8 hv => exact ⟨h4, h8, rfl⟩

/-- The state after an entry is the one rule R530 describes. -/
theorem State.entered_of_tryEnter {s t : State} {v : BitVec 8} {spc : Word} {mask : Option (BitVec 4)}
    (h : s.tryEnter v spc mask = .entered t) : Entered s t v spc (s.sr.raiseMask mask) := by
  obtain ⟨-, -, rfl⟩ := State.tryEnter_entered h
  refine ⟨s.pushedSr, s.pushedFrame spc, s.storedThen_pushedSr, s.storedThen_pushedFrame spc, ?vector, ?state⟩
  case vector =>
    rw [← s.vectorAddr_eq]
    exact Memory.readWidth_long_toNat _ _
  case state => simp [State.setReg]

theorem State.frameStacked_of_tryEnter {s t : State} {v : BitVec 8} {spc : Word} {mask : Option (BitVec 4)}
    (h : s.tryEnter v spc mask = .entered t) (hbus : s.bus = []) :
    FrameStacked s.mem t.mem (s.reg 15) s.sr spc := by
  obtain ⟨h4, h8, rfl⟩ := State.tryEnter_entered h
  rw [(s.pushedFrame spc).busTurn_of_bus_nil (s.bus_pushedFrame spc hbus)]
  exact s.frameStacked_pushedFrame spc hbus h4 h8

/-! ## An entry that stops at an address error -/

/-- All an entry that fails can have done: none, one or both of its stores (rule R534). -/
theorem State.entryBegun_of_tryEnter {s u : State} {v : BitVec 8} {spc : Word} {mask : Option (BitVec 4)}
    (h : s.tryEnter v spc mask = .addressError u) : EntryBegun s u spc := by
  have ho := s.tryEnter_outcome v spc mask
  rw [h] at ho
  unfold EntryBegun
  rw [← s.pushedSr_eq_poke]
  cases ho with
  | stoppedFirst => exact .inl rfl
  | stoppedSecond => exact .inr (.inl rfl)
  | stoppedThird => exact .inr (.inr rfl)

/-- The state `u` is still that of the instruction `s` is at: nothing has changed that an exception entry goes by, and where
no other bus master writes, memory at most in the frame the entry will store. -/
structure SamePlace (s u : State) : Prop where
  slot : u.slot = s.slot
  pc : u.pc = s.pc
  platform : u.platform = s.platform
  memory : s.bus = [] → u.bus = [] ∧ SameOutsideFrame s.mem u.mem (u.reg 15)

theorem SamePlace.refl (s : State) : SamePlace s s :=
  ⟨rfl, rfl, rfl, fun h => ⟨h, .refl _ _⟩⟩

theorem State.samePlace_pushedSr (s : State) : SamePlace s s.pushedSr where
  slot := s.slot_pushedSr
  pc := s.pc_pushedSr
  platform := s.platform_pushedSr
  memory hbus := by
    rw [s.reg_pushedSr]
    exact ⟨s.bus_pushedSr hbus, s.sameOutsideFrame_pushedSr hbus⟩

theorem State.samePlace_pushedFrame (s : State) (spc : Word) : SamePlace s (s.pushedFrame spc) where
  slot := s.slot_pushedFrame spc
  pc := s.pc_pushedFrame spc
  platform := s.platform_pushedFrame spc
  memory hbus := by
    rw [s.reg_pushedFrame]
    exact ⟨s.bus_pushedFrame spc hbus, s.sameOutsideFrame_pushedFrame spc hbus⟩

theorem samePlace_of_entryBegun {s u : State} {spc : Word} (h : EntryBegun s u spc) : SamePlace s u := by
  unfold EntryBegun at h
  rw [← s.pushedSr_eq_poke] at h
  rcases h with h | h | h
  · exact h ▸ .refl s
  · exact h ▸ s.samePlace_pushedSr
  · exact h ▸ s.samePlace_pushedFrame spc

/-- After the turn of the other bus masters, with any registers, SR and bus lock, the instruction is where it was. -/
theorem samePlace_of_busTurn (s : State) (regs : Vector Word 16) (sr : Sr) (lock : Bool) :
    SamePlace s { s.busTurn with regs := regs, sr := sr, busLock := lock } where
  slot := rfl
  pc := rfl
  platform := rfl
  memory hbus := by
    rw [s.busTurn_of_bus_nil hbus]
    exact ⟨hbus, .refl _ _⟩

/-- Before the access at fault an instruction has changed nothing that an entry goes by (rule R516, log entry 21). -/
theorem samePlace_of_faultsFrom {i : Instr} {s u : State} (h : FaultsFrom i s u) : SamePlace s u := by
  rcases h with rfl | h
  · exact ⟨rfl, rfl, rfl, fun hbus => ⟨hbus, .refl _ _⟩⟩
  · split at h
    -- MAC.L, MAC.W, the three that modify a byte, TAS.B, and those with no second access
    iterate 6
      · subst h
        exact samePlace_of_busTurn s _ _ false
    · exact h.elim

end Sys2Proof.Machine
end

section
/-! SUPPORT. What an instruction in a delay slot comes to: it completes, or an exception is entered from one of the states
it can stop in. -/

namespace Sys2Proof.Machine

open Sys2Proof.Config Sys2Proof.Says

/-- How the instruction in a delay slot can end, the branch going to `target`, as O28 says. -/
def SlotEnd (i : Instr) (s : State) (target : Word) (t : State) : Prop :=
  (t.mode = .doubleFault ∧ t.slot = s.slot ∧ t.pc = s.pc)
    ∨ (t.slot = none ∧ t.pc = target)
    ∨ ∃ u v, SlotTrapsFrom i s u v target ∧ Entered u t v target u.sr
        ∧ (s.bus = [] → FrameStacked s.mem t.mem (u.reg 15) u.sr target)

section

variable {i : Instr} {s u : State} {target : Word}

/-! ## Exceptions of the slot instruction -/

theorem SlotEnd.of_tryEnter {t : State} {v : BitVec 8} (hplace : SamePlace s u) (htrap : SlotTrapsFrom i s u v target)
    (h : u.tryEnter v target none = .entered t) : SlotEnd i s target t := by
  refine .inr (.inr ⟨u, v, htrap, State.entered_of_tryEnter h, fun hbus => ?_⟩)
  obtain ⟨hbus', hmem⟩ := hplace.memory hbus
  exact hmem.frameStacked (State.frameStacked_of_tryEnter h hbus')

/-- An address error that is entered, or that leads to `DoubleFault`. -/
theorem SlotEnd.enterAddressError (hplace : SamePlace s u)
    (htrap : SlotTrapsFrom i s u s.platform.vec.addressError target) :
    Answers (SlotEnd i s target) (u.enterAddressError target) := by
  intro t ht
  rcases u.enterAddressError_cases t target ht with h | ⟨u', h, rfl⟩
  · exact SlotEnd.of_tryEnter hplace htrap (hplace.platform ▸ h)
  · have hplace' := samePlace_of_entryBegun (State.entryBegun_of_tryEnter h)
    exact .inl ⟨rfl, hplace'.slot.trans hplace.slot, hplace'.pc.trans hplace.pc⟩

/-- An address error of the instruction's own accesses (rule R516). -/
theorem SlotEnd.raiseAddressError (hslot : s.slot = some target) (hfault : FaultsFrom i s { u with busLock := false }) :
    Answers (SlotEnd i s target) u.raiseAddressError := by
  have hplace := samePlace_of_faultsFrom hfault
  rw [State.raiseAddressError, u.nextPc_of_slot target (hplace.slot.trans hslot)]
  exact SlotEnd.enterAddressError hplace (.inr ⟨rfl, hfault⟩)

/-- A slot illegal instruction (rules R517, R523). -/
theorem SlotEnd.raiseIllegal (hslot : s.slot = some target)
    (hi : i.rewritesPc = true ∨ (i.usesFpu = true ∧ s.fpuStopped = true)) :
    Answers (SlotEnd i s target) s.raiseIllegal := by
  have hraise : s.raiseIllegal = s.enter s.platform.vec.slotIllegal target none := by simp [State.raiseIllegal, hslot]
  intro t ht
  rcases s.enter_cases t _ target none (hraise ▸ ht) with h | ⟨u, h, ht'⟩
  · exact SlotEnd.of_tryEnter (.refl s) (.inl ⟨hi, .inl ⟨rfl, rfl⟩⟩) h
  · have hbegun := State.entryBegun_of_tryEnter h
    exact SlotEnd.enterAddressError (samePlace_of_entryBegun hbegun) (.inl ⟨hi, .inr ⟨rfl, hbegun⟩⟩) t ht'

/-- In a slot, what an instruction that rewrites PC would do outside one does not matter (rule R325). -/
theorem SlotEnd.outsideSlot {r : Result} (hslot : s.slot = some target) (hi : i.rewritesPc = true) :
    Answers (SlotEnd i s target) (s.outsideSlot r) := by
  rw [s.outsideSlot_of_slot target r hslot]
  exact SlotEnd.raiseIllegal hslot (.inl hi)

/-! ## Completing -/

theorem SlotEnd.complete (hu : u.slot = some target) : Answers (SlotEnd i s target) u.complete :=
  (answers_next _ _).mpr (.inr (.inl ⟨rfl, u.nextPc_of_slot target hu⟩))

theorem SlotEnd.completeInhibited (hu : u.slot = some target) : Answers (SlotEnd i s target) u.completeInhibited :=
  (answers_next _ _).mpr (.inr (.inl ⟨rfl, u.nextPc_of_slot target hu⟩))

theorem SlotEnd.fpFinish {n : FReg} {r : Fpscr × Option Word} (hu : u.slot = some target) :
    Answers (SlotEnd i s target) (u.fpFinish n r) := by
  unfold State.fpFinish
  split <;> exact SlotEnd.complete hu

theorem SlotEnd.fpCompare {b : Option Bool} (hu : u.slot = some target) :
    Answers (SlotEnd i s target) (u.fpCompare b) := by
  unfold State.fpCompare
  split
  · exact SlotEnd.complete hu
  · split <;> exact SlotEnd.complete hu

theorem SlotEnd.fpTruncate {r : Word × Bool} (hu : u.slot = some target) :
    Answers (SlotEnd i s target) (u.fpTruncate r) := by
  unfold State.fpTruncate
  split
  · split <;> exact SlotEnd.complete hu
  · exact SlotEnd.complete hu

/-- An FPU instruction: slot illegal, a NOP, or what it does otherwise (rules R523, R527). -/
theorem SlotEnd.withFpu {r : Result} (hslot : s.slot = some target) (hi : i.usesFpu = true)
    (hr : Answers (SlotEnd i s target) r) : Answers (SlotEnd i s target) (s.withFpu r) := by
  unfold State.withFpu
  split
  next hstopped => exact SlotEnd.raiseIllegal hslot (.inr ⟨hi, hstopped⟩)
  next =>
    split
    · exact SlotEnd.complete hslot
    · exact hr

/-! ## Accesses -/

theorem SlotEnd.withLoad {w : Width} {a : Word} {body : State → Word → Result} (hslot : s.slot = some target)
    (hfault : FaultsFrom i s { u with busLock := false })
    (hbody : Answers (SlotEnd i s target) (body u.busTurn (u.busTurn.mem.readWidth w a.toNat))) :
    Answers (SlotEnd i s target) (u.withLoad w a body) := by
  intro t ht
  rcases u.withLoad_cases t w a body ht with ⟨-, h⟩ | h
  · exact hbody t h
  · exact SlotEnd.raiseAddressError hslot hfault t h

theorem SlotEnd.withStore {w : Width} {a v : Word} {body : State → Result} (hslot : s.slot = some target)
    (hfault : FaultsFrom i s { u with busLock := false })
    (hbody : Answers (SlotEnd i s target) (body (u.busTurn.poke w a v))) :
    Answers (SlotEnd i s target) (u.withStore w a v body) := by
  intro t ht
  rcases u.withStore_cases t w a v body ht with ⟨-, h⟩ | h
  · exact hbody t h
  · exact SlotEnd.raiseAddressError hslot hfault t h

/-- Before the first access nothing is done. -/
theorem faultsFrom_first (i : Instr) (s : State) : FaultsFrom i s { s with busLock := false } := .inl rfl

theorem SlotEnd.loadReg {w : Width} {a : Word} {n : Reg} (hslot : s.slot = some target) :
    Answers (SlotEnd i s target) (s.loadReg w a n) :=
  SlotEnd.withLoad hslot (faultsFrom_first i s) (SlotEnd.complete hslot)

theorem SlotEnd.loadPostInc {w : Width} {m n : Reg} (hslot : s.slot = some target) :
    Answers (SlotEnd i s target) (s.loadPostInc w m n) := by
  refine SlotEnd.withLoad hslot (faultsFrom_first i s) ?_
  split <;> exact SlotEnd.complete hslot

theorem SlotEnd.storeAt {w : Width} {a v : Word} (hslot : s.slot = some target) :
    Answers (SlotEnd i s target) (s.storeAt w a v) :=
  SlotEnd.withStore hslot (faultsFrom_first i s) (SlotEnd.complete hslot)

theorem SlotEnd.storePreDec {w : Width} {n : Reg} {v : Word} (hslot : s.slot = some target) :
    Answers (SlotEnd i s target) (s.storePreDec w n v) :=
  SlotEnd.withStore hslot (faultsFrom_first i s) (SlotEnd.complete hslot)

theorem SlotEnd.loadLongInc {m : Reg} {put : State → Word → State} {body : State → Result}
    (hslot : s.slot = some target) (hput : ∀ s' v, (put s' v).slot = s'.slot)
    (hbody : ∀ s', s'.slot = some target → Answers (SlotEnd i s target) (body s')) :
    Answers (SlotEnd i s target) (s.andThen (s.loadLongInc m put) body) := by
  rw [State.andThen_loadLongInc]
  exact SlotEnd.withLoad hslot (faultsFrom_first i s) (hbody _ ((hput _ _).trans hslot))

theorem SlotEnd.storeLongDec {n : Reg} {v : Word} {body : State → Result} (hslot : s.slot = some target)
    (hbody : ∀ s', s'.slot = some target → Answers (SlotEnd i s target) (body s')) :
    Answers (SlotEnd i s target) (s.andThen (s.storeLongDec n v) body) := by
  rw [State.andThen_storeLongDec]
  exact SlotEnd.withStore hslot (faultsFrom_first i s) (hbody _ hslot)

/-! ## Two accesses: what is done before the second (log entries 21 and 34) -/

theorem SlotEnd.macL {m n : Reg} (hslot : s.slot = some target) :
    Answers (SlotEnd (.macL m n) s target) (execMacL m n s) :=
  SlotEnd.withLoad hslot (faultsFrom_first _ s) (SlotEnd.withLoad hslot (.inr rfl) (SlotEnd.complete hslot))

theorem SlotEnd.macW {m n : Reg} (hslot : s.slot = some target) :
    Answers (SlotEnd (.macW m n) s target) (execMacW m n s) :=
  SlotEnd.withLoad hslot (faultsFrom_first _ s) (SlotEnd.withLoad hslot (.inr rfl) (SlotEnd.complete hslot))

theorem setWidth_beq_zero (b : Byte) : (b.setWidth 32 == 0#32) = decide (b = 0x00#8) := by
  revert b; decide

theorem SlotEnd.tasB {n : Reg} (hslot : s.slot = some target) :
    Answers (SlotEnd (.tasB n) s target) (execTasB n s) := by
  refine SlotEnd.withLoad hslot (faultsFrom_first _ s) (SlotEnd.withStore hslot (.inr ?_) (SlotEnd.complete hslot))
  simp only [Memory.readWidth, setWidth_beq_zero]
  rfl

end

/-! ## Every instruction -/

/-- Every instruction in a delay slot ends as one instruction does. The cases go by what the instruction does. -/
theorem exec_slotEnd (i : Instr) (s : State) (target : Word) (hs : s.slot = some target) :
    Answers (SlotEnd i s target) (exec i s) := by
  match i with
  -- results in registers, NOP and SLEEP
  | .movImm .. | .mov .. | .mova .. | .movt .. | .swapB .. | .swapW .. | .xtrct .. | .add .. | .addImm .. | .extsB ..
  | .extsW .. | .extuB .. | .extuW .. | .neg .. | .sub .. | .andReg .. | .andImm .. | .notReg .. | .orReg .. | .orImm ..
  | .xorReg .. | .xorImm .. | .shll2 .. | .shlr2 .. | .shll8 .. | .shlr8 .. | .shll16 .. | .shlr16 ..
  | .addc .. | .addv .. | .dt .. | .negc .. | .subc .. | .subv .. | .rotl .. | .rotr .. | .rotcl .. | .rotcr ..
  | .shal .. | .shar .. | .shll .. | .shlr .. | .cmpEqImm .. | .cmpEq .. | .cmpHs .. | .cmpGe .. | .cmpHi ..
  | .cmpGt .. | .cmpPl .. | .cmpPz .. | .cmpStr .. | .tstReg .. | .tstImm .. | .clrt | .sett | .div1 .. | .div0s ..
  | .div0u | .dmulsL .. | .dmuluL .. | .mulL .. | .mulsW .. | .muluW .. | .clrmac | .nop | .sleep =>
    exact SlotEnd.complete hs
  | .ldcSr .. | .ldcGbr .. | .ldcVbr .. | .ldsMach .. | .ldsMacl .. | .ldsPr .. | .stcSr .. | .stcGbr .. | .stcVbr ..
  | .stsMach .. | .stsMacl .. | .stsPr .. => exact SlotEnd.completeInhibited hs
  -- one access
  | .movWPc .. | .movLPc .. | .movBLoad .. | .movWLoad .. | .movLLoad .. | .movBLoadDisp .. | .movWLoadDisp ..
  | .movLLoadDisp .. | .movBLoadR0 .. | .movWLoadR0 .. | .movLLoadR0 .. | .movBLoadGbr .. | .movWLoadGbr ..
  | .movLLoadGbr .. => exact SlotEnd.loadReg hs
  | .movBPostInc .. | .movWPostInc .. | .movLPostInc .. => exact SlotEnd.loadPostInc hs
  | .movBStore .. | .movWStore .. | .movLStore .. | .movBStoreDisp .. | .movWStoreDisp .. | .movLStoreDisp ..
  | .movBStoreR0 .. | .movWStoreR0 .. | .movLStoreR0 .. | .movBStoreGbr .. | .movWStoreGbr .. | .movLStoreGbr .. =>
    exact SlotEnd.storeAt hs
  | .movBPreDec .. | .movWPreDec .. | .movLPreDec .. => exact SlotEnd.storePreDec hs
  | .tstB .. => exact SlotEnd.withLoad hs (faultsFrom_first _ s) (SlotEnd.complete hs)
  | .ldcLSr .. | .ldcLGbr .. | .ldcLVbr .. | .ldsLMach .. | .ldsLMacl .. | .ldsLPr .. =>
    exact SlotEnd.loadLongInc hs (fun _ _ => rfl) fun _ => SlotEnd.completeInhibited
  | .stcLSr .. | .stcLGbr .. | .stcLVbr .. | .stsLMach .. | .stsLMacl .. | .stsLPr .. =>
    exact SlotEnd.storeLongDec hs fun _ => SlotEnd.completeInhibited
  -- two accesses
  | .macL .. => exact SlotEnd.macL hs
  | .macW .. => exact SlotEnd.macW hs
  | .andB .. | .orB .. | .xorB .. =>
    exact SlotEnd.withLoad hs (faultsFrom_first _ s) (SlotEnd.withStore hs (.inr rfl) (SlotEnd.complete hs))
  | .tasB .. => exact SlotEnd.tasB hs
  -- instructions that rewrite PC
  | .bf .. | .bt .. | .bfS .. | .btS .. | .bra .. | .braf .. | .jmp .. | .rts | .bsr .. | .bsrf .. | .jsr .. | .rte
  | .trapa .. => exact SlotEnd.outsideSlot hs rfl
  -- the FPU
  | .fabs .. | .fadd .. | .fdiv .. | .float .. | .fmac .. | .fmul .. | .fneg .. | .fsub .. =>
    exact SlotEnd.withFpu hs rfl (SlotEnd.fpFinish hs)
  | .fcmpEq .. | .fcmpGt .. => exact SlotEnd.withFpu hs rfl (SlotEnd.fpCompare hs)
  | .ftrc .. => exact SlotEnd.withFpu hs rfl (SlotEnd.fpTruncate hs)
  | .fldi0 .. | .fldi1 .. | .flds .. | .fmov .. | .fsts .. | .ldsFpscr .. | .ldsFpul .. | .stsFpscr .. | .stsFpul .. =>
    exact SlotEnd.withFpu hs rfl (SlotEnd.complete hs)
  | .fmovLoadR0 .. | .fmovLoad .. =>
    exact SlotEnd.withFpu hs rfl (SlotEnd.withLoad hs (faultsFrom_first _ s) (SlotEnd.complete hs))
  | .fmovPostInc .. | .ldsLFpscr .. | .ldsLFpul .. =>
    exact SlotEnd.withFpu hs rfl (SlotEnd.loadLongInc hs (fun _ _ => rfl) fun _ => SlotEnd.complete)
  | .fmovStoreR0 .. | .fmovStore .. => exact SlotEnd.withFpu hs rfl (SlotEnd.storeAt hs)
  | .fmovPreDec .. | .stsLFpscr .. | .stsLFpul .. =>
    exact SlotEnd.withFpu hs rfl (SlotEnd.storeLongDec hs fun _ => SlotEnd.complete)

/-- Settles O28: whatever the instruction does, it completes or is trapped in one of the ways of `SlotEnd`. -/
theorem slotIsOneInstruction : Obligations.SlotIsOneInstruction :=
  fun i s t target hslot ht => exec_slotEnd i s target hslot t ht

end Sys2Proof.Machine
end

section
/-! SUPPORT. The codes: a code and its nibbles, the decoder and the encoder as each other's inverse, the codes of the
instructions as numbers, and the codes that no instruction owns. -/

namespace Sys2Proof

open Sys2Proof.Machine Sys2Proof.Says

/-! ## A code and its nibbles -/

/-- A code as a number (rule R91). -/
theorem toNat_nibbles (g n m x : BitVec 4) :
    (nibbles g n m x).toNat = g.toNat * 4096 + n.toNat * 256 + m.toNat * 16 + x.toNat := by
  have hn := n.isLt
  have hm := m.isLt
  have hx := x.isLt
  simp only [nibbles, BitVec.toNat_append]
  rw [← Nat.shiftLeft_add_eq_or_of_lt hx, ← Nat.shiftLeft_add_eq_or_of_lt hm, ← Nat.shiftLeft_add_eq_or_of_lt hn]
  simp only [Nat.shiftLeft_eq]
  omega

theorem digits_nibbles (g n m x : BitVec 4) :
    (nibbles g n m x).toNat / 4096 = g.toNat ∧ (nibbles g n m x).toNat / 256 % 16 = n.toNat
      ∧ (nibbles g n m x).toNat / 16 % 16 = m.toNat ∧ (nibbles g n m x).toNat % 16 = x.toNat := by
  rw [toNat_nibbles]
  omega

theorem nibbles_extractLsb' (w : Half) :
    nibbles (w.extractLsb' 12 4) (w.extractLsb' 8 4) (w.extractLsb' 4 4) (w.extractLsb' 0 4) = w := by
  apply BitVec.eq_of_toNat_eq
  simp only [toNat_nibbles, BitVec.extractLsb'_toNat, Nat.shiftRight_eq_div_pow]
  omega

/-- The decoder reads the nibbles a code is made of (rule R99). -/
theorem decodeWord_nibbles (g n m x : BitVec 4) : decodeWord (nibbles g n m x) = decodeNibbles g n m x := by
  have h : (nibbles g n m x).extractLsb' 12 4 = g ∧ (nibbles g n m x).extractLsb' 8 4 = n
      ∧ (nibbles g n m x).extractLsb' 4 4 = m ∧ (nibbles g n m x).extractLsb' 0 4 = x := by
    simp only [← BitVec.toNat_inj, BitVec.extractLsb'_toNat, toNat_nibbles, Nat.shiftRight_eq_div_pow]
    omega
  obtain ⟨hg, hn, hm, hx⟩ := h
  rw [decodeWord, hg, hn, hm, hx]

/-- The nibbles that the last arm of a table stands for are those its other arms leave. -/
theorem nibble_cases (x : BitVec 4) :
    x = 0x0#4 ∨ x = 0x1#4 ∨ x = 0x2#4 ∨ x = 0x3#4 ∨ x = 0x4#4 ∨ x = 0x5#4 ∨ x = 0x6#4 ∨ x = 0x7#4 ∨ x = 0x8#4
      ∨ x = 0x9#4 ∨ x = 0xA#4 ∨ x = 0xB#4 ∨ x = 0xC#4 ∨ x = 0xD#4 ∨ x = 0xE#4 ∨ x = 0xF#4 := by
  revert x; decide

/-! ## Decoding what was encoded -/

/-- A byte operand is read back from its two nibbles. -/
theorem decodeWord_of_byte {g n : BitVec 4} {f : Byte → Instr} (b : Byte)
    (h : ∀ m x, decodeNibbles g n m x = some (f (m ++ x))) :
    decodeWord (nibbles g n (b.extractLsb' 4 4) (b.extractLsb' 0 4)) = some (f b) := by
  rw [decodeWord_nibbles, h, BitVec.extractLsb'_append_extractLsb' (w := 4) (len := 4)]

/-- A displacement of 12 bits is read back from its three nibbles. -/
theorem decodeWord_of_disp12 {g : BitVec 4} {f : BitVec 12 → Instr} (d : BitVec 12)
    (h : ∀ n m x, decodeNibbles g n m x = some (f (n ++ m ++ x))) :
    decodeWord (nibbles g (d.extractLsb' 8 4) (d.extractLsb' 4 4) (d.extractLsb' 0 4)) = some (f d) := by
  rw [decodeWord_nibbles, h,
    BitVec.extractLsb'_append_extractLsb'_eq_extractLsb' (start₂ := 8) (start₁ := 4) (len₁ := 4) rfl,
    BitVec.extractLsb'_append_extractLsb' (w := 8) (len := 4)]

/-- The code of every instruction decodes to it. The cases go by the operands: a byte, a displacement of 12 bits, and
otherwise whole nibbles. -/
theorem decodeWord_encodeWord (i : Instr) : decodeWord (encodeWord i) = some i := by
  cases i with
  | movImm b n => exact decodeWord_of_byte (f := (.movImm · n)) b fun _ _ => rfl
  | movWPc b n => exact decodeWord_of_byte (f := (.movWPc · n)) b fun _ _ => rfl
  | movLPc b n => exact decodeWord_of_byte (f := (.movLPc · n)) b fun _ _ => rfl
  | addImm b n => exact decodeWord_of_byte (f := (.addImm · n)) b fun _ _ => rfl
  | movBStoreGbr b | movWStoreGbr b | movLStoreGbr b | movBLoadGbr b | movWLoadGbr b | movLLoadGbr b | mova b
  | cmpEqImm b | andImm b | andB b | orImm b | orB b | tstImm b | tstB b | xorImm b | xorB b | bf b | bfS b | bt b
  | btS b | trapa b => exact decodeWord_of_byte b fun _ _ => rfl
  | bra d | bsr d => exact decodeWord_of_disp12 d fun _ _ _ => rfl
  | _ => exact decodeWord_nibbles ..

/-- Settles O1: the two bytes of the code are put together again, and the code decodes to the instruction. -/
theorem decodeEncodeRoundTrip : Obligations.DecodeEncodeRoundTrip := by
  intro i rest
  have hcode : (encodeWord i).extractLsb' 8 8 ++ (encodeWord i).extractLsb' 0 8 = encodeWord i :=
    BitVec.extractLsb'_append_extractLsb' (w := 8) (len := 8)
  simp [encode, decode, hcode, decodeWord_encodeWord]

/-! ## Encoding what was decoded

An arm of a table answers an instruction whose code has the nibbles that select the arm. -/

theorem nibbles_extractLsb'_append (g n m x : BitVec 4) :
    nibbles g n ((m ++ x).extractLsb' 4 4) ((m ++ x).extractLsb' 0 4) = nibbles g n m x := by
  rw [BitVec.extractLsb'_append_eq_left, BitVec.extractLsb'_append_eq_right]

theorem encodeWord_of_decodeGroup0 (n m x : BitVec 4) : ∀ i ∈ decodeGroup0 n m x, encodeWord i = nibbles 0x0#4 n m x := by
  fun_cases decodeGroup0 n m x <;> rintro _ ⟨⟩ <;> rfl

theorem encodeWord_of_decodeGroup2 (n m x : BitVec 4) : ∀ i ∈ decodeGroup2 n m x, encodeWord i = nibbles 0x2#4 n m x := by
  fun_cases decodeGroup2 n m x <;> rintro _ ⟨⟩ <;> rfl

theorem encodeWord_of_decodeGroup3 (n m x : BitVec 4) : ∀ i ∈ decodeGroup3 n m x, encodeWord i = nibbles 0x3#4 n m x := by
  fun_cases decodeGroup3 n m x <;> rintro _ ⟨⟩ <;> rfl

theorem encodeWord_of_decodeGroup4 (n m x : BitVec 4) : ∀ i ∈ decodeGroup4 n m x, encodeWord i = nibbles 0x4#4 n m x := by
  fun_cases decodeGroup4 n m x <;> rintro _ ⟨⟩ <;> rfl

theorem encodeWord_of_decodeGroup6 (n m x : BitVec 4) : ∀ i ∈ decodeGroup6 n m x, encodeWord i = nibbles 0x6#4 n m x := by
  fun_cases decodeGroup6 n m x <;> rintro _ ⟨⟩
  case case16 =>
    obtain rfl : x = 0xF#4 := by have := nibble_cases x; tauto
    rfl
  all_goals rfl

theorem encodeWord_of_decodeGroup8 (n m x : BitVec 4) : ∀ i ∈ decodeGroup8 n m x, encodeWord i = nibbles 0x8#4 n m x := by
  fun_cases decodeGroup8 n m x <;> rintro _ ⟨⟩
  -- the four moves with a displacement of 4 bits
  iterate 4 rfl
  all_goals exact nibbles_extractLsb'_append ..

theorem encodeWord_of_decodeGroupC (n m x : BitVec 4) : ∀ i ∈ decodeGroupC n m x, encodeWord i = nibbles 0xC#4 n m x := by
  fun_cases decodeGroupC n m x <;> rintro _ ⟨⟩
  case case16 =>
    obtain rfl : n = 0xF#4 := by have := nibble_cases n; tauto
    exact nibbles_extractLsb'_append ..
  all_goals exact nibbles_extractLsb'_append ..

theorem encodeWord_of_decodeGroupF (n m x : BitVec 4) : ∀ i ∈ decodeGroupF n m x, encodeWord i = nibbles 0xF#4 n m x := by
  fun_cases decodeGroupF n m x <;> rintro _ ⟨⟩ <;> rfl

/-- A displacement of 12 bits is written back as its three nibbles. -/
theorem nibbles_extractLsb'_disp12 (g n m x : BitVec 4) :
    nibbles g ((n ++ m ++ x).extractLsb' 8 4) ((n ++ m ++ x).extractLsb' 4 4) ((n ++ m ++ x).extractLsb' 0 4)
      = nibbles g n m x := by
  rw [BitVec.extractLsb'_append_eq_of_le (by decide : 4 ≤ 8), BitVec.extractLsb'_append_eq_left,
    BitVec.extractLsb'_append_eq_of_le (by decide : 4 ≤ 4), BitVec.extractLsb'_append_eq_right,
    BitVec.extractLsb'_append_eq_right]

theorem encodeWord_of_decodeNibbles (g n m x : BitVec 4) :
    ∀ i ∈ decodeNibbles g n m x, encodeWord i = nibbles g n m x := by
  fun_cases decodeNibbles g n m x
  case case1 => exact encodeWord_of_decodeGroup0 n m x
  case case3 => exact encodeWord_of_decodeGroup2 n m x
  case case4 => exact encodeWord_of_decodeGroup3 n m x
  case case5 => exact encodeWord_of_decodeGroup4 n m x
  case case7 => exact encodeWord_of_decodeGroup6 n m x
  case case9 => exact encodeWord_of_decodeGroup8 n m x
  case case13 => exact encodeWord_of_decodeGroupC n m x
  case case16 =>
    obtain rfl : g = 0xF#4 := by have := nibble_cases g; tauto
    exact encodeWord_of_decodeGroupF n m x
  -- the groups of one instruction
  case case2 | case6 => rintro _ ⟨⟩; rfl
  case case8 | case10 | case14 | case15 => rintro _ ⟨⟩; exact nibbles_extractLsb'_append ..
  case case11 | case12 => rintro _ ⟨⟩; exact nibbles_extractLsb'_disp12 ..

theorem encodeWord_of_decodeWord {w : Half} {i : Instr} (h : decodeWord w = some i) : encodeWord i = w :=
  (encodeWord_of_decodeNibbles _ _ _ _ i h).trans (nibbles_extractLsb' w)

/-- Settles O2: group by group, the encoder writes the nibbles that the decoder read. -/
theorem encodeDecodeRoundTrip : Obligations.EncodeDecodeRoundTrip :=
  fun _ _ => encodeWord_of_decodeWord

/-- The decoder is the inverse of the encoder. -/
theorem decodeWord_eq_some_iff {w : Half} {i : Instr} : decodeWord w = some i ↔ encodeWord i = w :=
  ⟨encodeWord_of_decodeWord, fun h => h ▸ decodeWord_encodeWord i⟩

/-! ## The encoding formats (rule R91) as nibbles -/

theorem nmCode_eq_nibbles (g : Nat) (n m : Fin 16) (x : Nat) (hx : x < 16) :
    nmCode g n m x = nibbles (.ofNat 4 g) (.ofFin n) (.ofFin m) (.ofNat 4 x) := by
  apply BitVec.eq_of_toNat_eq
  simp only [nmCode, toNat_nibbles, BitVec.toNat_ofNat, BitVec.toNat_ofFin]
  omega

theorem nCode_eq_nibbles (g : Nat) (n : Fin 16) (low : Nat) (h : low < 256) :
    nCode g n low = nibbles (.ofNat 4 g) (.ofFin n) (.ofNat 4 (low / 16)) (.ofNat 4 (low % 16)) := by
  apply BitVec.eq_of_toNat_eq
  simp only [nCode, toNat_nibbles, BitVec.toNat_ofNat, BitVec.toNat_ofFin]
  omega

theorem nbCode_eq_nibbles (g : Nat) (n : Fin 16) (b : BitVec 8) :
    nbCode g n b = nibbles (.ofNat 4 g) (.ofFin n) (b.extractLsb' 4 4) (b.extractLsb' 0 4) := by
  apply BitVec.eq_of_toNat_eq
  simp only [nbCode, toNat_nibbles, BitVec.toNat_ofNat, BitVec.toNat_ofFin, BitVec.extractLsb'_toNat,
    Nat.shiftRight_eq_div_pow]
  omega

theorem byteCode_eq_nibbles (high : Nat) (b : BitVec 8) :
    byteCode high b = nibbles (.ofNat 4 (high / 16)) (.ofNat 4 (high % 16)) (b.extractLsb' 4 4) (b.extractLsb' 0 4) := by
  apply BitVec.eq_of_toNat_eq
  simp only [byteCode, toNat_nibbles, BitVec.toNat_ofNat, BitVec.extractLsb'_toNat, Nat.shiftRight_eq_div_pow]
  omega

theorem dispCode_eq_nibbles (high : Nat) (n : Fin 16) (d : BitVec 4) :
    dispCode high n d = nibbles (.ofNat 4 (high / 16)) (.ofNat 4 (high % 16)) (.ofFin n) d := by
  apply BitVec.eq_of_toNat_eq
  simp only [dispCode, toNat_nibbles, BitVec.toNat_ofNat, BitVec.toNat_ofFin]
  omega

theorem nmdCode_eq_nibbles (g : Nat) (n m : Fin 16) (d : BitVec 4) :
    nmdCode g n m d = nibbles (.ofNat 4 g) (.ofFin n) (.ofFin m) d := by
  apply BitVec.eq_of_toNat_eq
  simp only [nmdCode, toNat_nibbles, BitVec.toNat_ofNat, BitVec.toNat_ofFin]
  omega

theorem d12Code_eq_nibbles (g : Nat) (d : BitVec 12) :
    d12Code g d = nibbles (.ofNat 4 g) (d.extractLsb' 8 4) (d.extractLsb' 4 4) (d.extractLsb' 0 4) := by
  apply BitVec.eq_of_toNat_eq
  simp only [d12Code, toNat_nibbles, BitVec.toNat_ofNat, BitVec.extractLsb'_toNat, Nat.shiftRight_eq_div_pow]
  omega

/-! ## The codes of the instructions -/

/-- Settles O3: each code, as nibbles, is the one the encoder writes, and the decoder is the encoder's inverse. -/
theorem assignedIntegerCodes : Obligations.AssignedIntegerCodes := by
  unfold Obligations.AssignedIntegerCodes
  simp (disch := decide) only [decodeWord_eq_some_iff, encodeWord, nmCode_eq_nibbles, nCode_eq_nibbles,
    nbCode_eq_nibbles, byteCode_eq_nibbles, dispCode_eq_nibbles, nmdCode_eq_nibbles, Nat.reduceDiv, Nat.reduceMod,
    implies_true, and_true, true_and]
  -- what is left is the code of DIV0U, which has no operand
  rfl

/-- Settles O4 as O3. -/
theorem assignedControlCodes : Obligations.AssignedControlCodes := by
  unfold Obligations.AssignedControlCodes
  simp (disch := decide) only [decodeWord_eq_some_iff, encodeWord, nmCode_eq_nibbles, nCode_eq_nibbles,
    byteCode_eq_nibbles, d12Code_eq_nibbles, Nat.reduceDiv, Nat.reduceMod, implies_true, and_true, true_and]
  -- what is left are the codes of the seven instructions that have no operand
  decide

/-- Settles O6: each row is the code that the encoder writes for its instruction. -/
theorem workedEncodings : Obligations.WorkedEncodings := by
  unfold Obligations.WorkedEncodings
  simp only [decodeWord_eq_some_iff]
  decide

/-! ## The codes that no instruction owns (rule R116), group by group

A numbered case of a group's table is an arm for the nibbles that no other arm names. -/

theorem decodeGroup0_eq_none_iff (n m x : BitVec 4) : decodeGroup0 n m x = none ↔
    x = 0x0#4 ∨ x = 0x1#4 ∨ x = 0x2#4 ∧ m ∉ [0x0#4, 0x1#4, 0x2#4] ∨ x = 0x3#4 ∧ m ∉ [0x0#4, 0x2#4]
      ∨ x = 0x8#4 ∧ ¬(n = 0x0#4 ∧ m ∈ [0x0#4, 0x1#4, 0x2#4])
      ∨ x = 0x9#4 ∧ m ≠ 0x2#4 ∧ ¬(n = 0x0#4 ∧ m ∈ [0x0#4, 0x1#4])
      ∨ x = 0xA#4 ∧ m ∉ [0x0#4, 0x1#4, 0x2#4, 0x5#4, 0x6#4]
      ∨ x = 0xB#4 ∧ ¬(n = 0x0#4 ∧ m ∈ [0x0#4, 0x1#4, 0x2#4]) := by
  fun_cases decodeGroup0 n m x
  case case42 =>
    have hx : x = 0x0#4 ∨ x = 0x1#4 := by have := nibble_cases x; tauto
    rcases hx with rfl | rfl <;> simp
  all_goals simp_all

theorem decodeGroup2_eq_none_iff (n m x : BitVec 4) : decodeGroup2 n m x = none ↔ x = 0x3#4 := by
  fun_cases decodeGroup2 n m x
  case case16 => exact iff_of_true rfl (by have := nibble_cases x; tauto)
  all_goals simp

theorem decodeGroup3_eq_none_iff (n m x : BitVec 4) : decodeGroup3 n m x = none ↔ x = 0x1#4 ∨ x = 0x9#4 := by
  fun_cases decodeGroup3 n m x
  case case15 => exact iff_of_true rfl (by have := nibble_cases x; tauto)
  all_goals simp

theorem decodeGroup4_eq_none_iff (n m x : BitVec 4) : decodeGroup4 n m x = none ↔
    x ∈ [0x0#4, 0x1#4, 0x3#4, 0x5#4, 0x7#4, 0x8#4, 0x9#4, 0xB#4, 0xE#4] ∧ m ∉ [0x0#4, 0x1#4, 0x2#4]
      ∨ x ∈ [0x2#4, 0x6#4, 0xA#4] ∧ m ∉ [0x0#4, 0x1#4, 0x2#4, 0x5#4, 0x6#4]
      ∨ x = 0x4#4 ∧ m ∉ [0x0#4, 0x2#4] ∨ x = 0xC#4 ∨ x = 0xD#4 := by
  fun_cases decodeGroup4 n m x
  case case59 =>
    have hx : x = 0xC#4 ∨ x = 0xD#4 := by have := nibble_cases x; tauto
    exact iff_of_true rfl (.inr (.inr (.inr hx)))
  all_goals simp_all

theorem decodeGroup8_eq_none_iff (n m x : BitVec 4) : decodeGroup8 n m x = none ↔
    n = 0x2#4 ∨ n = 0x3#4 ∨ n = 0x6#4 ∨ n = 0x7#4 ∨ n = 0xA#4 ∨ n = 0xC#4 ∨ n = 0xE#4 := by
  fun_cases decodeGroup8 n m x
  case case10 => exact iff_of_true rfl (by have := nibble_cases n; tauto)
  all_goals simp

theorem decodeGroupF_eq_none_iff (n m x : BitVec 4) : decodeGroupF n m x = none ↔
    x = 0xD#4 ∧ (m = 0x6#4 ∨ m = 0x7#4 ∨ m = 0xA#4 ∨ m = 0xB#4 ∨ m = 0xC#4 ∨ m = 0xD#4 ∨ m = 0xE#4 ∨ m = 0xF#4)
      ∨ x = 0xF#4 := by
  fun_cases decodeGroupF n m x
  case case22 => exact iff_of_true rfl (.inl ⟨rfl, by have := nibble_cases m; tauto⟩)
  case case24 => exact iff_of_true rfl (.inr (by have := nibble_cases x; tauto))
  all_goals simp

theorem decodeGroup6_ne_none (n m x : BitVec 4) : decodeGroup6 n m x ≠ none := by
  fun_cases decodeGroup6 n m x <;> simp

theorem decodeGroupC_ne_none (n m x : BitVec 4) : decodeGroupC n m x ≠ none := by
  fun_cases decodeGroupC n m x <;> simp

/-- The groups' tables together are the table of rule R116. -/
theorem decodeNibbles_eq_none_iff (g n m x : BitVec 4) :
    decodeNibbles g n m x = none ↔ Unassigned (nibbles g n m x) := by
  obtain ⟨hg, hn, hm, hx⟩ := digits_nibbles g n m x
  simp only [Unassigned, hg, hn, hm, hx]
  fun_cases decodeNibbles g n m x
  -- the groups with codes left out: the two tables say the same, one of nibbles and one of digits
  case case1 => simp [decodeGroup0_eq_none_iff, BitVec.toNat_eq]
  case case3 => simp [decodeGroup2_eq_none_iff, BitVec.toNat_eq]
  case case4 => simp [decodeGroup3_eq_none_iff, BitVec.toNat_eq]
  case case5 => simp [decodeGroup4_eq_none_iff, BitVec.toNat_eq]
  case case9 => simp [decodeGroup8_eq_none_iff, BitVec.toNat_eq]
  case case16 =>
    obtain rfl : g = 0xF#4 := by have := nibble_cases g; tauto
    simp [decodeGroupF_eq_none_iff, BitVec.toNat_eq]
  -- the full groups
  case case7 => simp [decodeGroup6_ne_none]
  case case13 => simp [decodeGroupC_ne_none]
  all_goals simp [decodeGroup1, decodeGroup5, decodeGroup7, decodeGroup9, decodeGroupA, decodeGroupB,
      decodeGroupD, decodeGroupE]

/-- The unassigned codes are those the decoder's tables leave out (rules R115, R116). -/
theorem decodeWord_eq_none_iff (w : Half) : decodeWord w = none ↔ Unassigned w := by
  rw [decodeWord, decodeNibbles_eq_none_iff, nibbles_extractLsb']

/-- Settles O5: the decoder's tables leave out what rule R116 lists, and such a code is rejected under its name. -/
theorem unassignedCodesRejected : Obligations.UnassignedCodesRejected := by
  intro w
  refine ⟨decodeWord_eq_none_iff w, fun hw rest => ?_⟩
  have hcode : w.extractLsb' 8 8 ++ w.extractLsb' 0 8 = w := BitVec.extractLsb'_append_extractLsb' (w := 8) (len := 8)
  simp [decode, hcode, (decodeWord_eq_none_iff w).mpr hw]

end Sys2Proof
end

section
/-! SUPPORT. Illegal instructions: what takes the illegal instruction exception where it stands. -/

namespace Sys2Proof.Machine

open Sys2Proof.Config Sys2Proof.Says

/-- Where every access of an entry passes, an exception other than an address error is entered (rule R530). -/
theorem State.enter_of_frameReady (s : State) (v : BitVec 8) (spc : Word) (h : FrameReady s v) :
    ∃ t, s.enter v spc none = .next t ∧ Entered s t v spc s.sr := by
  obtain ⟨h4, h8, hv⟩ := h
  have hentry := s.tryEnter_of_accessible v spc none h4 h8 (s.vectorAddr_eq v ▸ hv)
  exact ⟨_, by rw [State.enter, hentry], State.entered_of_tryEnter hentry⟩

theorem State.takesIllegal_raiseIllegal (s : State) : TakesIllegal s s.raiseIllegal := by
  cases hslot : s.slot with
  | some target => simpa only [TakesIllegal, State.raiseIllegal, hslot] using s.enter_of_frameReady _ target
  | none => simpa only [TakesIllegal, State.raiseIllegal, hslot] using s.enter_of_frameReady _ s.pc

/-- Rules R118 and R325. -/
theorem exec_eq_raiseIllegal_of_slot (i : Instr) (s : State) (hi : i.rewritesPc = true) (hs : s.slot ≠ none) :
    exec i s = s.raiseIllegal := by
  obtain ⟨target, hslot⟩ := Option.ne_none_iff_exists'.mp hs
  cases i with
  | bf | bfS | bt | btS | bra | braf | bsr | bsrf | jmp | jsr | rts | rte | trapa =>
    exact s.outsideSlot_of_slot target _ hslot
  | _ => nomatch hi

/-- Rules R119 and R523. -/
theorem exec_eq_raiseIllegal_of_stopped (i : Instr) (s : State) (hi : i.usesFpu = true) (hs : s.fpuStopped = true) :
    exec i s = s.raiseIllegal := by
  cases i with
  | fabs | fadd | fcmpEq | fcmpGt | fdiv | fldi0 | fldi1 | flds | float | fmac | fmov | fmovLoadR0 | fmovPostInc
  | fmovLoad | fmovStoreR0 | fmovPreDec | fmovStore | fmul | fneg | fsts | fsub | ftrc | ldsFpscr | ldsFpul
  | ldsLFpscr | ldsLFpul | stsFpscr | stsFpul | stsLFpscr | stsLFpul =>
    exact s.withFpu_of_stopped _ hs
  | _ => nomatch hi

/-- Settles O37: each of the three raises the illegal instruction exception and does nothing else. -/
theorem illegalInstructionsTrap : Obligations.IllegalInstructionsTrap := by
  intro s
  refine ⟨fun i hi hs => ?inSlot, fun i hi hs => ?stopped, fun code hcode => ?unassigned⟩
  case inSlot => exact exec_eq_raiseIllegal_of_slot i s hi hs ▸ s.takesIllegal_raiseIllegal
  case stopped => exact exec_eq_raiseIllegal_of_stopped i s hi hs ▸ s.takesIllegal_raiseIllegal
  case unassigned =>
    have hnone : decodeWord code = none := (decodeWord_eq_none_iff code).mpr hcode
    exact s.executeCode_of_undecoded code hnone ▸ s.takesIllegal_raiseIllegal

end Sys2Proof.Machine
end

section
/-! SUPPORT. The data transfers beside the plain loads and stores: transfers between registers, operands addressed from PC,
and address registers that step. -/

namespace Sys2Proof.Machine

open Sys2Proof.Config Sys2Proof.Says

/-! ## Parts of a register as numbers -/

/-- A concatenation as a number: the left part counts from bit `k` on. -/
theorem toNat_append_eq_mul_add {j k : Nat} (a : BitVec j) (b : BitVec k) :
    (a ++ b).toNat = a.toNat * 2 ^ k + b.toNat := by
  rw [BitVec.toNat_append, ← Nat.shiftLeft_add_eq_or_of_lt b.isLt, Nat.shiftLeft_eq]

theorem toNat_lowByte (x : Word) : (lowByte x).toNat = x.toNat % 256 :=
  BitVec.extractLsb'_toNat 0 8 x

theorem toNat_lowHalf (x : Word) : (lowHalf x).toNat = x.toNat % 65536 :=
  BitVec.extractLsb'_toNat 0 16 x

theorem toNat_highHalf (x : Word) : (highHalf x).toNat = x.toNat / 65536 := by
  rw [highHalf, BitVec.extractLsb'_toNat, Nat.shiftRight_eq_div_pow]
  omega

/-- The word of SWAP.W, where `y` is `x`, and of XTRCT (rules R182, R183). -/
theorem lowHalf_append_highHalf (x y : Word) :
    lowHalf x ++ highHalf y = BitVec.ofNat 32 (x.toNat % 65536 * 65536 + y.toNat / 65536) := by
  apply BitVec.eq_of_toNat_eq
  rw [toNat_append_eq_mul_add, toNat_lowHalf, toNat_highHalf, BitVec.toNat_ofNat]
  omega

theorem swapBytes_eq (x : Word) : swapBytes x =
    BitVec.ofNat 32 (x.toNat / 65536 * 65536 + x.toNat % 256 * 256 + x.toNat / 256 % 256) := by
  have hsecond : (x.extractLsb' 8 8).toNat = x.toNat / 256 % 256 := by
    rw [BitVec.extractLsb'_toNat, Nat.shiftRight_eq_div_pow]
  apply BitVec.eq_of_toNat_eq
  rw [swapBytes, toNat_append_eq_mul_add, toNat_append_eq_mul_add, toNat_highHalf, toNat_lowByte, hsecond,
    BitVec.toNat_ofNat]
  omega

theorem setWidth_ofBool_eq_bit (b : Bool) : (BitVec.ofBool b).setWidth 32 = BitVec.ofNat 32 (bit b) := by
  cases b <;> rfl

/-! ## Transfers between registers -/

/-- An instruction that completes with a value in `R[n]` and is encoded by this code. -/
theorem runs_wrote {code : Half} {i : Instr} {s : State} {n : Reg} {v v' : Word} (hcode : code = encodeWord i)
    (hi : exec i s = (s.setReg n v).complete) (hv : v = v') : Runs code i s (wrote s n v') :=
  ⟨hcode ▸ decodeWord_encodeWord i, hv ▸ hi⟩

/-- Settles O7: each of the six completes with one value in `R[n]`, and that value is the number of its rule. -/
theorem registerTransfers : Obligations.RegisterTransfers := by
  intro m n i s
  refine ⟨?movImm, ?mov, ?movt, ?swapB, ?swapW, ?xtrct⟩
  case movImm => exact runs_wrote (nbCode_eq_nibbles _ n i) rfl (signExtend_eq_ofInt_signed i)
  case mov => exact runs_wrote (nmCode_eq_nibbles _ n m _ (by decide)) rfl rfl
  case movt => exact runs_wrote (nCode_eq_nibbles _ n _ (by decide)) rfl (setWidth_ofBool_eq_bit s.sr.t)
  case swapB => exact runs_wrote (nmCode_eq_nibbles _ n m _ (by decide)) rfl (swapBytes_eq (s.reg m))
  case swapW => exact runs_wrote (nmCode_eq_nibbles _ n m _ (by decide)) rfl (lowHalf_append_highHalf _ _)
  case xtrct => exact runs_wrote (nmCode_eq_nibbles _ n m _ (by decide)) rfl (lowHalf_append_highHalf _ _)

/-! ## Operands addressed from PC -/

/-- Clearing the two low bits of an address rounds it down to a multiple of 4 (rule R97). -/
theorem and_longMask_eq (x : Word) : x &&& 0xFFFFFFFC#32 = BitVec.ofNat 32 (x.toNat / 4 * 4) := by
  have hshift : x >>> 2 <<< 2 = x &&& 0xFFFFFFFC#32 := BitVec.shiftLeft_ushiftRight
  apply BitVec.eq_of_toNat_eq
  rw [← hshift, BitVec.toNat_shiftLeft, BitVec.toNat_ushiftRight, Nat.shiftLeft_eq, Nat.shiftRight_eq_div_pow,
    BitVec.toNat_ofNat]

theorem eaPcLong_eq (s : State) (d : BitVec 8) :
    eaPcLong s d = BitVec.ofNat 32 ((pcOperand s).toNat / 4 * 4 + d.toNat * 4) := by
  have hbase : s.pcVal &&& 0xFFFFFFFC#32 = BitVec.ofNat 32 ((pcOperand s).toNat / 4 * 4) := and_longMask_eq s.pcVal
  have hdisp : d.setWidth 32 * 4#32 = BitVec.ofNat 32 (d.toNat * 4) := setWidth_mul_sizeWord d .long
  rw [eaPcLong, hbase, hdisp, BitVec.ofNat_add]

/-- Settles O8: the model's two effective addresses from PC are those of the statement, in a slot and outside. -/
theorem pcRelativeOperands : Obligations.PcRelativeOperands := by
  intro d n
  refine ⟨?movWPc, ?movLPc, fun s => ?mova⟩
  case movWPc => exact loadsInto_of_loadReg (fun _ => rfl) fun s => eaPcWord_eq s d
  case movLPc => exact loadsInto_of_loadReg (fun _ => rfl) fun s => eaPcLong_eq s d
  case mova =>
    rw [← eaPcLong_eq]
    rfl

/-! ## Address registers that step -/

/-- A post-increment load: where the two are one register, the loaded value prevails (rule R142). -/
theorem loadsInto_of_loadPostInc {i : Instr} {w : Width} {m n : Reg} (hi : ∀ s, exec i s = s.loadPostInc w m n) :
    LoadsInto i w (fun s => s.reg m) always fun s v =>
      if n = m then wrote s n v
      else { wrote s n v with regs := (s.regs.set n.val v).set m.val (s.reg m + sizeWord w) } := by
  intro s _ ha
  rw [hi, State.loadPostInc, s.withLoad_of_accessible w (s.reg m) _ ha, extendLoaded_readWidth]
  by_cases h : n = m
  · simp only [h, if_true]
    rfl
  · simp only [h, if_false]
    rfl

/-- A pre-decrement store: what is stored is read before the address register changes (rule R143). -/
theorem storesAt_of_storePreDec {i : Instr} {w : Width} {n : Reg} {v : State → Word}
    (hi : ∀ s, exec i s = s.storePreDec w n (v s)) :
    StoresAt i w (fun s => s.reg n - sizeWord w) always v fun s => wrote s n (s.reg n - sizeWord w) := by
  intro s _ ha
  refine ⟨((s.busTurn.poke w (eaPreDec s w n) (v s)).setReg n (eaPreDec s w n)).advance, ?_, rfl,
    s.busTurn.stored_poke w (eaPreDec s w n) (v s)⟩
  rw [hi, State.storePreDec, s.withStore_of_accessible w (eaPreDec s w n) (v s) _ ha]
  rfl

/-- Settles O11: each of the six is `State.loadPostInc` or `State.storePreDec` of its width. -/
theorem stepAddressing : Obligations.StepAddressing := by
  intro m n
  refine ⟨?_, ?_, ?_, ?_, ?_, ?_⟩
  -- `@Rm+` and `@-Rn`, each for the three widths
  iterate 3 exact loadsInto_of_loadPostInc fun _ => rfl
  iterate 3 exact storesAt_of_storePreDec fun _ => rfl

end Sys2Proof.Machine
end

section
/-! SUPPORT. The arithmetic instructions that write a register, a register and T, or T alone: their results as exact
numbers. -/

namespace Sys2Proof.Machine

open Sys2Proof.Config Sys2Proof.Says

/-! ## Words as numbers -/

@[simp] theorem bit_true : bit true = 1 := rfl
@[simp] theorem bit_false : bit false = 0 := rfl

theorem bit_le_one (b : Bool) : bit b ≤ 1 := by
  cases b <;> decide

theorem bit_eq_toNat (b : Bool) : bit b = b.toNat := by
  cases b <;> rfl

/-- The two's complement value of a register or of an operand. -/
theorem toInt_eq_signed {k : Nat} (v : BitVec k) : v.toInt = signed k v.toNat := by
  have hhalf : 2 * v.toNat < 2 ^ k ↔ v.toNat < 2 ^ (k - 1) := by
    cases k with
    | zero => simp
    | succ k => rw [Nat.add_sub_cancel, Nat.pow_succ]; omega
  rw [BitVec.toInt_eq_toNat_cond, signed]
  simp only [hhalf]
  push_cast
  rfl

theorem add_eq_ofNat (a b : Word) : a + b = BitVec.ofNat 32 (a.toNat + b.toNat) := by
  rw [BitVec.ofNat_add, BitVec.ofNat_toNat, BitVec.ofNat_toNat, BitVec.setWidth_eq, BitVec.setWidth_eq]

theorem ofInt_toNat (a : Word) : BitVec.ofInt 32 (a.toNat : Int) = a := by
  rw [BitVec.ofInt_natCast, BitVec.ofNat_toNat, BitVec.setWidth_eq]

theorem sub_eq_ofInt (a b : Word) : a - b = BitVec.ofInt 32 ((a.toNat : Int) - (b.toNat : Int)) := by
  rw [Int.sub_eq_add_neg, BitVec.ofInt_add, BitVec.ofInt_neg, ofInt_toNat, ofInt_toNat, BitVec.sub_eq_add_neg]

theorem add_sext8_eq_ofInt (a : Word) (i : Byte) :
    a + sext8 i = BitVec.ofInt 32 ((a.toNat : Int) + signed 8 i.toNat) := by
  rw [BitVec.ofInt_add, ofInt_toNat, sext8, signExtend_eq_ofInt_signed]

/-! ## O12 -/

/-- Settles O12: each of the four completes with one value in `R[n]`, and that value is the exact one modulo 2^32. -/
theorem addAndSubtract : Obligations.AddAndSubtract := by
  intro m n i s
  refine ⟨?add, ?addImm, ?neg, ?sub⟩
  case add => exact runs_wrote (nmCode_eq_nibbles _ n m _ (by decide)) rfl (add_eq_ofNat _ _)
  case addImm => exact runs_wrote (nbCode_eq_nibbles _ n i) rfl (add_sext8_eq_ofInt _ i)
  case neg => exact runs_wrote (nmCode_eq_nibbles _ n m _ (by decide)) rfl (sub_eq_ofInt 0#32 _)
  case sub => exact runs_wrote (nmCode_eq_nibbles _ n m _ (by decide)) rfl (sub_eq_ofInt _ _)

/-! ## O17 -/

theorem zext8_lowByte (x : Word) : zext8 (lowByte x) = BitVec.ofNat 32 (x.toNat % 256) := by
  rw [zext8, ← BitVec.ofNat_toNat, toNat_lowByte]

theorem zext16_lowHalf (x : Word) : zext16 (lowHalf x) = BitVec.ofNat 32 (x.toNat % 65536) := by
  rw [zext16, ← BitVec.ofNat_toNat, toNat_lowHalf]

theorem sext8_lowByte (x : Word) : sext8 (lowByte x) = BitVec.ofInt 32 (signed 8 (x.toNat % 256)) := by
  rw [sext8, signExtend_eq_ofInt_signed, toNat_lowByte]

theorem sext16_lowHalf (x : Word) : sext16 (lowHalf x) = BitVec.ofInt 32 (signed 16 (x.toNat % 65536)) := by
  rw [sext16, signExtend_eq_ofInt_signed, toNat_lowHalf]

/-- Settles O17: each of the four completes with the extension of a part of `R[m]` in `R[n]`. -/
theorem extensions : Obligations.Extensions := by
  intro m n s
  refine ⟨?extsB, ?extsW, ?extuB, ?extuW⟩
  case extsB => exact runs_wrote (nmCode_eq_nibbles _ n m _ (by decide)) rfl (sext8_lowByte _)
  case extsW => exact runs_wrote (nmCode_eq_nibbles _ n m _ (by decide)) rfl (sext16_lowHalf _)
  case extuB => exact runs_wrote (nmCode_eq_nibbles _ n m _ (by decide)) rfl (zext8_lowByte _)
  case extuW => exact runs_wrote (nmCode_eq_nibbles _ n m _ (by decide)) rfl (zext16_lowHalf _)

/-! ## Results with a flag -/

theorem addCarry_eq (a b : Word) (c : Bool) : addCarry a b c =
    (BitVec.ofNat 32 (a.toNat + b.toNat + bit c), decide (2 ^ 32 ≤ a.toNat + b.toNat + bit c)) := by
  rw [addCarry, bit_eq_toNat]

theorem subBorrow_eq (a b : Word) (c : Bool) : subBorrow a b c =
    (BitVec.ofInt 32 ((a.toNat : Int) - (b.toNat : Int) - bit c),
      decide ((a.toNat : Int) - (b.toNat : Int) - bit c < 0)) := by
  rw [subBorrow, bit_eq_toNat]

/-- A signed sum overflows where both signs agree and the sign of the sum is another. -/
theorem addOverflow_eq (a b : Word) :
    addOverflow a b = (a + b, decide (a.msb = b.msb ∧ (a + b).msb ≠ a.msb)) := by
  have hsum : BitVec.ofInt 32 (a.toInt + b.toInt) = a + b := by
    rw [BitVec.ofInt_add, BitVec.ofInt_toInt, BitVec.ofInt_toInt]
  have hflag : decide (a.toInt + b.toInt < -2 ^ 31 ∨ 2 ^ 31 ≤ a.toInt + b.toInt) = a.saddOverflow b := by
    rw [Bool.decide_or, Bool.or_comm]
    rfl
  rw [addOverflow, hsum, hflag, BitVec.saddOverflow_eq]
  cases a.msb <;> cases b.msb <;> simp

/-- A signed difference overflows where the signs differ and the sign of the difference is not the first one's. -/
theorem subOverflow_eq (a b : Word) :
    subOverflow a b = (a - b, decide (a.msb ≠ b.msb ∧ (a - b).msb ≠ a.msb)) := by
  have hdiff : BitVec.ofInt 32 (a.toInt - b.toInt) = a - b := by
    rw [Int.sub_eq_add_neg, BitVec.ofInt_add, BitVec.ofInt_neg, BitVec.ofInt_toInt, BitVec.ofInt_toInt,
      BitVec.sub_eq_add_neg]
  have hflag : decide (a.toInt - b.toInt < -2 ^ 31 ∨ 2 ^ 31 ≤ a.toInt - b.toInt) = a.ssubOverflow b := by
    rw [Bool.decide_or, Bool.or_comm]
    rfl
  rw [subOverflow, hdiff, hflag, BitVec.ssubOverflow_eq]
  cases a.msb <;> cases b.msb <;> simp

/-- A register becomes 0 by a decrement where it was 1 (rule R220). -/
theorem sub_one_beq_zero (a : Word) : (a - 1#32 == 0#32) = decide (a.toNat = 1) := by
  rw [Bool.eq_iff_iff, beq_iff_eq, decide_eq_true_iff]
  bv_omega

/-- An instruction that completes with a value in `R[n]` and a flag in T, and is encoded by this code. -/
theorem runs_wroteT {code : Half} {i : Instr} {s : State} {n : Reg} {r : Word × Bool} {v : Word} {t : Bool}
    (hcode : code = encodeWord i) (hi : exec i s = s.setRegT n r) (hr : r = (v, t)) :
    Runs code i s (wroteT s n v t) :=
  ⟨hcode ▸ decodeWord_encodeWord i, hi.trans (congrArg (s.setRegT n) hr)⟩

/-- Settles O13: each of the six completes with a result and a flag, which are those of exact arithmetic. -/
theorem carriesAndOverflows : Obligations.CarriesAndOverflows := by
  intro m n s
  refine ⟨?addc, ?addv, ?dt, ?negc, ?subc, ?subv⟩
  case addc => exact runs_wroteT (nmCode_eq_nibbles _ n m _ (by decide)) rfl (addCarry_eq _ _ _)
  case addv => exact runs_wroteT (nmCode_eq_nibbles _ n m _ (by decide)) rfl (addOverflow_eq _ _)
  case dt => exact runs_wroteT (nCode_eq_nibbles _ n _ (by decide)) rfl (congrArg _ (sub_one_beq_zero _))
  case negc => exact runs_wroteT (nmCode_eq_nibbles _ n m _ (by decide)) rfl (subBorrow_eq 0#32 _ _)
  case subc => exact runs_wroteT (nmCode_eq_nibbles _ n m _ (by decide)) rfl (subBorrow_eq _ _ _)
  case subv => exact runs_wroteT (nmCode_eq_nibbles _ n m _ (by decide)) rfl (subOverflow_eq _ _)

/-! ## Comparisons -/

theorem signedGe_eq (a b : Word) : signedGe a b = decide (signed 32 b.toNat ≤ signed 32 a.toNat) := by
  rw [signedGe, toInt_eq_signed, toInt_eq_signed]

theorem signedGt_eq (a b : Word) : signedGt a b = decide (signed 32 b.toNat < signed 32 a.toNat) := by
  rw [signedGt, toInt_eq_signed, toInt_eq_signed]

theorem beq_eq_decide_toNat {k : Nat} (a b : BitVec k) : (a == b) = decide (a.toNat = b.toNat) := by
  rw [Bool.eq_iff_iff, beq_iff_eq, decide_eq_true_iff, BitVec.toNat_inj]

/-- Sign extension keeps the value of an immediate (rule R205). -/
theorem beq_sext8 (a : Word) (i : Byte) : (a == sext8 i) = decide (signed 32 a.toNat = signed 8 i.toNat) := by
  have hext : (sext8 i).toInt = i.toInt := BitVec.toInt_signExtend_of_le (by decide)
  rw [Bool.eq_iff_iff, beq_iff_eq, decide_eq_true_iff, ← toInt_eq_signed, ← toInt_eq_signed, ← hext, BitVec.toInt_inj]

theorem someByteEqual_eq (a b : Word) : someByteEqual a b =
    decide (a.toNat / 16777216 % 256 = b.toNat / 16777216 % 256 ∨ a.toNat / 65536 % 256 = b.toNat / 65536 % 256
      ∨ a.toNat / 256 % 256 = b.toNat / 256 % 256 ∨ a.toNat % 256 = b.toNat % 256) := by
  simp only [someByteEqual, beq_eq_decide_toNat, BitVec.extractLsb'_toNat, Nat.shiftRight_eq_div_pow, Nat.reducePow,
    Nat.div_one, Bool.decide_or, Bool.or_assoc]

/-- An instruction that completes with a flag in T, and is encoded by this code. -/
theorem runs_setsT {code : Half} {i : Instr} {s : State} {t t' : Bool} (hcode : code = encodeWord i)
    (hi : exec i s = (s.setT t).complete) (ht : t = t') : Runs code i s (setsT s t') :=
  ⟨hcode ▸ decodeWord_encodeWord i, ht ▸ hi⟩

/-- Settles O14: each of the nine completes with T alone changed, and T says whether its condition holds. -/
theorem comparisons : Obligations.Comparisons := by
  intro m n i s
  refine ⟨?cmpEqImm, ?cmpEq, ?cmpHs, ?cmpGe, ?cmpHi, ?cmpGt, ?cmpPl, ?cmpPz, ?cmpStr⟩
  case cmpEqImm => exact runs_setsT (byteCode_eq_nibbles _ i) rfl (beq_sext8 _ i)
  case cmpEq => exact runs_setsT (nmCode_eq_nibbles _ n m _ (by decide)) rfl (beq_eq_decide_toNat _ _)
  case cmpHs => exact runs_setsT (nmCode_eq_nibbles _ n m _ (by decide)) rfl rfl
  case cmpGe => exact runs_setsT (nmCode_eq_nibbles _ n m _ (by decide)) rfl (signedGe_eq _ _)
  case cmpHi => exact runs_setsT (nmCode_eq_nibbles _ n m _ (by decide)) rfl rfl
  case cmpGt => exact runs_setsT (nmCode_eq_nibbles _ n m _ (by decide)) rfl (signedGt_eq _ _)
  case cmpPl => exact runs_setsT (nCode_eq_nibbles _ n _ (by decide)) rfl (signedGt_eq _ 0#32)
  case cmpPz => exact runs_setsT (nCode_eq_nibbles _ n _ (by decide)) rfl (signedGe_eq _ 0#32)
  case cmpStr => exact runs_setsT (nmCode_eq_nibbles _ n m _ (by decide)) rfl (someByteEqual_eq _ _)

end Sys2Proof.Machine
end

section
/-! SUPPORT. The steps of a division, and words linked by a flag: a dividend and its quotient bits (rule R214), and sums and
differences of 64 bits (rule R235). -/

namespace Sys2Proof.Machine

open Sys2Proof.Config Sys2Proof.Says

/-! ## Division steps -/

theorem shiftLeft_one_eq_ofNat (a : Word) : a <<< 1 = BitVec.ofNat 32 (a.toNat * 2) := by
  apply BitVec.eq_of_toNat_eq
  rw [BitVec.toNat_shiftLeft, Nat.shiftLeft_eq, BitVec.toNat_ofNat, Nat.pow_one]

/-- A shift to the left by one leaves bit 0 free for T. -/
theorem shiftLeft_one_and_ofBool (a : Word) (t : Bool) : a <<< 1 &&& (BitVec.ofBool t).setWidth 32 = 0#32 := by
  cases t with
  | false => exact BitVec.and_zero
  | true => simpa using BitVec.and_one_eq_setWidth_ofBool_getLsbD (x := a <<< 1)

/-- The dividend shifted left with T at bit 0 is twice the dividend plus T (rule R214). -/
theorem divShift_eq (a : Word) (t : Bool) : divShift a t = BitVec.ofNat 32 (a.toNat * 2 + bit t) := by
  rw [divShift, ← BitVec.add_eq_or_of_and_eq_zero _ _ (shiftLeft_one_and_ofBool a t), shiftLeft_one_eq_ofNat,
    setWidth_ofBool_eq_bit, BitVec.ofNat_add]

/-- A subtraction borrows where the difference is greater than what was subtracted from. -/
theorem unsignedGt_sub_self (a b : Word) : unsignedGt (a - b) a = decide (a.toNat < b.toNat) := by
  rw [unsignedGt, decide_eq_decide]
  bv_omega

/-- An addition carries where the sum is less than what was added to. -/
theorem unsignedGt_self_add (a b : Word) : unsignedGt a (a + b) = decide (2 ^ 32 ≤ a.toNat + b.toNat) := by
  rw [unsignedGt, decide_eq_decide]
  bv_omega

theorem divCombine_eq (a b : Word) (q m : Bool) : divCombine a b q m =
    (if q = m then a - b else a + b,
      if q = m then decide (a.toNat < b.toNat) else decide (2 ^ 32 ≤ a.toNat + b.toNat)) := by
  rw [divCombine, unsignedGt_sub_self, unsignedGt_self_add]
  split <;> rfl

/-- Settles O15: the shifted dividend, the sum or difference, and the bit lost are those of rule R214; DIV0S and DIV0U set
flags only. -/
theorem divisionSteps : Obligations.DivisionSteps := by
  intro m n s
  refine ⟨?div1, ?div0s, rfl⟩
  case div1 =>
    have hexec : exec (.div1 m n) s = execDiv1 m n s := rfl
    simp only [hexec, execDiv1, divCombine_eq, divShift_eq, BitVec.msb_eq_decide, Bool.beq_eq_decide_eq]
    rfl
  case div0s =>
    have hexec : exec (.div0s m n) s = execDiv0s m n s := rfl
    have hxor : ∀ p q : Bool, (p ^^ q) = decide (q ≠ p) := by decide
    simp only [hexec, execDiv0s, BitVec.msb_eq_decide, hxor]
    rfl

/-! ## Sums and differences of 64 bits -/

/-- CLRT and two instructions that take T in and give it out, the first on the low words and the second on the high ones:
the flag of the first reaches the second (rule R235). -/
theorem exec_flag_chain {f : Word → Word → Bool → Word × Bool} {i : Reg → Reg → Instr}
    (hi : ∀ m n s, exec (i m n) s = s.setRegT n (f (s.reg n) (s.reg m) s.sr.t)) (s : State) :
    let low := f (s.reg 1) (s.reg 3) false
    let high := f (s.reg 0) (s.reg 2) low.2
    ∃ s1 s2 t, exec .clrt s = .next s1 ∧ exec (i 3 1) s1 = .next s2 ∧ exec (i 2 0) s2 = .next t
      ∧ t.reg 0 = high.1 ∧ t.reg 1 = low.1 ∧ t.sr.t = high.2 := by
  refine ⟨_, _, _, rfl, hi _ _ _, hi _ _ _, ?_⟩
  simp [State.reg]

theorem eq_decide_of_bit_iff {b : Bool} {p : Prop} [Decidable p] (h : bit b = 1 ↔ p) : b = decide p := by
  cases b <;> simpa [bit] using h

/-- The sum and its carry together are the exact sum. -/
theorem toNat_addCarry (a b : Word) (c : Bool) :
    (addCarry a b c).1.toNat + 2 ^ 32 * bit (addCarry a b c).2 = a.toNat + b.toNat + bit c := by
  have hc := bit_le_one c
  rw [addCarry_eq, BitVec.toNat_ofNat]
  by_cases h : 2 ^ 32 ≤ a.toNat + b.toNat + bit c
  · rw [decide_eq_true h, bit_true]
    omega
  · rw [decide_eq_false h, bit_false]
    omega

/-- The difference less its borrow is the exact difference. -/
theorem toNat_subBorrow (a b : Word) (c : Bool) :
    ((subBorrow a b c).1.toNat : Int) - 2 ^ 32 * bit (subBorrow a b c).2 = (a.toNat : Int) - b.toNat - bit c := by
  have hc := bit_le_one c
  rw [subBorrow_eq, BitVec.toNat_ofInt]
  by_cases h : (a.toNat : Int) - b.toNat - bit c < 0
  · rw [decide_eq_true h, bit_true]
    omega
  · rw [decide_eq_false h, bit_false]
    omega

/-- Two words added with the carry of the low ones are their 64-bit sum, and the carry of the high ones its carry. -/
theorem addCarry_chain (a b c d : Word) :
    let low := addCarry b d false
    let high := addCarry a c low.2
    let sum := a.toNat * 2 ^ 32 + b.toNat + (c.toNat * 2 ^ 32 + d.toNat)
    high.1.toNat * 2 ^ 32 + low.1.toNat = sum % 2 ^ 64 ∧ high.2 = decide (2 ^ 64 ≤ sum) := by
  intro low high sum
  have hlow : low.1.toNat + 2 ^ 32 * bit low.2 = b.toNat + d.toNat := toNat_addCarry b d false
  have hhigh : high.1.toNat + 2 ^ 32 * bit high.2 = a.toNat + c.toNat + bit low.2 := toNat_addCarry a c low.2
  have hsum : sum = a.toNat * 2 ^ 32 + b.toNat + (c.toNat * 2 ^ 32 + d.toNat) := rfl
  have hbit := bit_le_one high.2
  clear_value low high sum
  refine ⟨by omega, eq_decide_of_bit_iff ?_⟩
  omega

/-- Two words subtracted with the borrow of the low ones are their 64-bit difference, and the borrow of the high ones its
borrow. -/
theorem subBorrow_chain (a b c d : Word) :
    let low := subBorrow b d false
    let high := subBorrow a c low.2
    let x := a.toNat * 2 ^ 32 + b.toNat
    let y := c.toNat * 2 ^ 32 + d.toNat
    high.1.toNat * 2 ^ 32 + low.1.toNat = (x + 2 ^ 64 - y) % 2 ^ 64 ∧ high.2 = decide (x < y) := by
  intro low high x y
  have hlow : (low.1.toNat : Int) - 2 ^ 32 * bit low.2 = (b.toNat : Int) - d.toNat :=
    (toNat_subBorrow b d false).trans (Int.sub_zero _)
  have hhigh : (high.1.toNat : Int) - 2 ^ 32 * bit high.2 = (a.toNat : Int) - c.toNat - bit low.2 :=
    toNat_subBorrow a c low.2
  have hx : x = a.toNat * 2 ^ 32 + b.toNat := rfl
  have hy : y = c.toNat * 2 ^ 32 + d.toNat := rfl
  have hbit := bit_le_one high.2
  clear_value low high x y
  refine ⟨by omega, eq_decide_of_bit_iff ?_⟩
  omega

/-- Settles O20: the flag links the two words, and two linked words are one number of 64 bits. -/
theorem sixtyFourBitSums : Obligations.SixtyFourBitSums := by
  intro s
  constructor
  · obtain ⟨s1, s2, t, h1, h2, h3, hhigh, hlow, hT⟩ := exec_flag_chain (i := .addc) (fun _ _ _ => rfl) s
    refine ⟨s1, s2, t, h1, h2, h3, ?_⟩
    rw [hhigh, hlow, hT]
    exact addCarry_chain _ _ _ _
  · obtain ⟨s1, s2, t, h1, h2, h3, hhigh, hlow, hT⟩ := exec_flag_chain (i := .subc) (fun _ _ _ => rfl) s
    refine ⟨s1, s2, t, h1, h2, h3, ?_⟩
    rw [hhigh, hlow, hT]
    exact subBorrow_chain _ _ _ _

end Sys2Proof.Machine
end

section
/-! SUPPORT. Products and the accumulator MACH:MACL: the multiplications, and MAC.L and MAC.W with their two accesses. -/

namespace Sys2Proof.Machine

open Sys2Proof.Config Sys2Proof.Says

/-! ## The accumulator -/

/-- The low word of a 64-bit value is the value modulo 2^32. -/
theorem extractLsb'_ofInt_low (p : Int) : (BitVec.ofInt 64 p).extractLsb' 0 32 = BitVec.ofInt 32 p := by
  apply BitVec.eq_of_toNat_eq
  rw [BitVec.extractLsb'_toNat, Nat.shiftRight_zero, BitVec.toNat_ofInt, BitVec.toNat_ofInt]
  omega

/-- The high word of a 64-bit value is the value divided by 2^32, rounded down. -/
theorem extractLsb'_ofInt_high (p : Int) : (BitVec.ofInt 64 p).extractLsb' 32 32 = BitVec.ofInt 32 (p / 2 ^ 32) := by
  apply BitVec.eq_of_toNat_eq
  rw [BitVec.extractLsb'_toNat, Nat.shiftRight_eq_div_pow, BitVec.toNat_ofInt, BitVec.toNat_ofInt]
  omega

theorem State.setMac_ofInt (s : State) (p : Int) : s.setMac (BitVec.ofInt 64 p) =
    { s with mach := BitVec.ofInt 32 (p / 2 ^ 32), macl := BitVec.ofInt 32 p } := by
  rw [State.setMac, extractLsb'_ofInt_high, extractLsb'_ofInt_low]

theorem State.setMac_ofNat (s : State) (p : Nat) : s.setMac (BitVec.ofNat 64 p) =
    { s with mach := BitVec.ofNat 32 (p / 2 ^ 32), macl := BitVec.ofNat 32 p } := by
  rw [← BitVec.ofInt_natCast, State.setMac_ofInt, BitVec.ofInt_natCast, ← BitVec.ofInt_natCast 32 (p / 2 ^ 32)]
  push_cast
  rfl

theorem State.setMac_append (s : State) (high low : Word) :
    s.setMac (high ++ low) = { s with mach := high, macl := low } := by
  rw [State.setMac, BitVec.extractLsb'_append_eq_left, BitVec.extractLsb'_append_eq_right]

theorem State.toNat_mac (s : State) : s.mac.toNat = s.mach.toNat * 2 ^ 32 + s.macl.toNat :=
  toNat_append_eq_mul_add _ _

/-! ## Products -/

theorem mul_eq_ofNat (a b : Word) : a * b = BitVec.ofNat 32 (a.toNat * b.toNat) := by
  rw [BitVec.ofNat_mul, BitVec.ofNat_toNat, BitVec.ofNat_toNat, BitVec.setWidth_eq, BitVec.setWidth_eq]

theorem toInt_lowHalf (x : Word) : (lowHalf x).toInt = signed 16 (x.toNat % 65536) := by
  rw [toInt_eq_signed, toNat_lowHalf]

/-- An instruction that completes with a value in MACH:MACL, and is encoded by this code. -/
theorem runs_setMac {code : Half} {i : Instr} {s : State} {v : BitVec 64} {high low : Word}
    (hcode : code = encodeWord i) (hi : exec i s = (s.setMac v).complete)
    (hv : s.setMac v = { s with mach := high, macl := low }) :
    Runs code i s { moved s with mach := high, macl := low } :=
  ⟨hcode ▸ decodeWord_encodeWord i, hi.trans (congrArg State.complete hv)⟩

/-- An instruction that completes with a value in MACL alone, and is encoded by this code. -/
theorem runs_macl {code : Half} {i : Instr} {s : State} {v v' : Word} (hcode : code = encodeWord i)
    (hi : exec i s = State.complete { s with macl := v }) (hv : v = v') :
    Runs code i s { moved s with macl := v' } :=
  ⟨hcode ▸ decodeWord_encodeWord i, hv ▸ hi⟩

/-- Settles O16: each of the five completes with an exact product, of which MACH:MACL or MACL alone hold the low bits. -/
theorem multiplications : Obligations.Multiplications := by
  intro m n s
  refine ⟨?dmulsL, ?dmuluL, ?mulL, ?mulsW, ?muluW⟩
  case dmulsL =>
    rw [← toInt_eq_signed, ← toInt_eq_signed]
    exact runs_setMac (nmCode_eq_nibbles _ n m _ (by decide)) rfl (s.setMac_ofInt _)
  case dmuluL => exact runs_setMac (nmCode_eq_nibbles _ n m _ (by decide)) rfl (s.setMac_ofNat _)
  case mulL => exact runs_macl (nmCode_eq_nibbles _ n m _ (by decide)) rfl (mul_eq_ofNat _ _)
  case mulsW =>
    rw [← toInt_lowHalf, ← toInt_lowHalf]
    exact runs_macl (nmCode_eq_nibbles _ n m _ (by decide)) rfl rfl
  case muluW =>
    rw [← toNat_lowHalf, ← toNat_lowHalf]
    exact runs_macl (nmCode_eq_nibbles _ n m _ (by decide)) rfl rfl

/-! ## The operands of a multiply-and-accumulate -/

/-- The address of the second operand: where both registers are one, it has already moved on (rules R225, R226). -/
def State.macSecond (s : State) (w : Width) (m n : Reg) : Word := if m = n then s.reg n + sizeWord w else s.reg m

theorem State.macSecond_eq (s : State) (w : Width) (m n : Reg) :
    s.macSecond w m n = (s.busTurn.setReg n (s.reg n + sizeWord w)).reg m := by
  rw [State.reg_setReg, State.macSecond, s.reg_busTurn]
  simp only [eq_comm]

/-- Where the first access passes, the second is made with the first register moved on. -/
theorem State.loadMacPair_of_first (s : State) (w : Width) (m n : Reg) (body : State → Word → Word → Result)
    (h : Accessible s .read w (s.reg n)) :
    s.loadMacPair w m n body =
      State.withLoad (s.busTurn.setReg n (s.reg n + sizeWord w)) w (s.macSecond w m n) fun s2 b =>
        body (s2.setReg m (s2.reg m + sizeWord w)) (s.busTurn.mem.readWidth w (s.reg n).toNat) b := by
  rw [State.loadMacPair, s.withLoad_of_accessible w _ _ h, s.macSecond_eq]
  rfl

/-- Where both accesses pass, both registers have moved on, the second one from the address it was read at. -/
theorem State.loadMacPair_of_both (s : State) (w : Width) (m n : Reg) (body : State → Word → Word → Result)
    (h : Accessible s .read w (s.reg n)) (h' : Accessible s .read w (s.macSecond w m n)) :
    s.loadMacPair w m n body =
      body { s.busTurn.busTurn with
              regs := (s.regs.set n.val (s.reg n + sizeWord w)).set m.val (s.macSecond w m n + sizeWord w) }
        (s.busTurn.mem.readWidth w (s.reg n).toNat)
        (s.busTurn.busTurn.mem.readWidth w (s.macSecond w m n).toNat) := by
  have h2 : Accessible (s.busTurn.setReg n (s.reg n + sizeWord w)) .read w (s.macSecond w m n) := h'
  rw [s.loadMacPair_of_first w m n body h, State.withLoad_of_accessible _ w _ _ h2, s.macSecond_eq]
  rfl

/-- Where the second access alone is misaligned, the first register has moved on and nothing else is done (log entry 21). -/
theorem State.loadMacPair_misaligned (s : State) (w : Width) (m n : Reg) (body : State → Word → Word → Result)
    (h : Accessible s .read w (s.reg n)) (h' : (s.macSecond w m n).toNat % widthBytes w ≠ 0) :
    s.loadMacPair w m n body = State.enterAddressError
      { s.busTurn with regs := s.regs.set n.val (s.reg n + sizeWord w), busLock := false } s.nextPc := by
  rw [s.loadMacPair_of_first w m n body h, State.withLoad_misaligned _ w _ _ h']
  rfl

theorem toInt_readWidth_long (m : Memory) (a : Nat) : (m.readWidth .long a).toInt = signed 32 (bytesValue m a 4) := by
  rw [toInt_eq_signed, Memory.readWidth_long_toNat]

theorem lowHalf_readWidth_word (m : Memory) (a : Nat) : lowHalf (m.readWidth .word a) = m.read16 a := by
  rw [lowHalf, Memory.readWidth, BitVec.extractLsb'_setWidth_of_le (by decide), BitVec.extractLsb'_eq_self]

theorem toInt_lowHalf_readWidth_word (m : Memory) (a : Nat) :
    (lowHalf (m.readWidth .word a)).toInt = signed 16 (bytesValue m a 2) := by
  rw [lowHalf_readWidth_word, toInt_eq_signed, Memory.read16_toNat_eq_bytesValue]

/-! ## Sums -/

theorem clamp_eq_max_min {low high : Int} (h : low ≤ high) (x : Int) : clamp low high x = max low (min high x) := by
  unfold clamp
  split
  · omega
  · split <;> omega

/-- MACH:MACL as a number without a sign, and a product. -/
def State.macSum (s : State) (product : Int) : Int := ((s.mach.toNat * 2 ^ 32 + s.macl.toNat : Nat) : Int) + product

/-- The low 48 bits of MACH:MACL as a signed number, and a product (decision D21). -/
def State.macSum48 (s : State) (product : Int) : Int :=
  signed 48 (s.mach.toNat % 65536 * 2 ^ 32 + s.macl.toNat) + product

/-- MACL as a signed number, and a product (rule R226). -/
def State.macSum32 (s : State) (product : Int) : Int := signed 32 s.macl.toNat + product

theorem macWrapping_mac (s : State) (product : Int) :
    macWrapping s.mac product = BitVec.ofInt 64 (s.macSum product) := by
  rw [macWrapping, State.macSum, BitVec.ofInt_add, ← s.toNat_mac, BitVec.ofInt_natCast, BitVec.ofNat_toNat,
    BitVec.setWidth_eq]

theorem macLongSaturating_mac (s : State) (a b : Word) : macLongSaturating s.mac a b =
    BitVec.ofInt 64 (max (-2 ^ 47) (min (2 ^ 47 - 1) (s.macSum48 (a.toInt * b.toInt)))) := by
  have hlow : (s.mac.extractLsb' 0 48).toNat = s.mach.toNat % 65536 * 2 ^ 32 + s.macl.toNat := by
    have hmacl := s.macl.isLt
    rw [BitVec.extractLsb'_toNat, Nat.shiftRight_zero, s.toNat_mac]
    omega
  rw [macLongSaturating, clamp_eq_max_min (by decide), toInt_eq_signed (s.mac.extractLsb' 0 48), hlow, State.macSum48]

theorem macWordSaturating_mac (s : State) (a b : Half) : macWordSaturating s.mac a b =
    (if s.macSum32 (a.toInt * b.toInt) < -2 ^ 31 ∨ 2 ^ 31 ≤ s.macSum32 (a.toInt * b.toInt) then s.mach ||| 1#32
      else s.mach)
      ++ BitVec.ofInt 32 (max (-2 ^ 31) (min (2 ^ 31 - 1) (s.macSum32 (a.toInt * b.toInt)))) := by
  have hhigh : s.mac.extractLsb' 32 32 = s.mach := BitVec.extractLsb'_append_eq_left
  have hlow : (s.mac.extractLsb' 0 32).toInt = signed 32 s.macl.toNat := by
    rw [State.mac, BitVec.extractLsb'_append_eq_right, toInt_eq_signed]
  rw [macWordSaturating, hhigh, hlow, clamp_eq_max_min (by decide)]
  rfl

/-! ## O18 and O19 -/

/-- The sum that MAC.L forms of a product (rule R225). -/
def State.macLongTotal (s : State) (product : Int) : Int :=
  if s.sr.s then max (-2 ^ 47) (min (2 ^ 47 - 1) (s.macSum48 product)) else s.macSum product

theorem macLong_mac (s : State) (a b : Word) :
    (if s.sr.s then macLongSaturating s.mac a b else macWrapping s.mac (a.toInt * b.toInt))
      = BitVec.ofInt 64 (s.macLongTotal (a.toInt * b.toInt)) := by
  rw [macLongSaturating_mac, macWrapping_mac, ← apply_ite, State.macLongTotal]

/-- What MAC.W makes of MACH and MACL in a state `u` of the instruction that began in `s` (rule R226). -/
theorem setMac_macWord (s u : State) (a b : Half) :
    u.setMac (if s.sr.s then macWordSaturating s.mac a b else macWrapping s.mac (a.toInt * b.toInt)) =
      { u with
        mach := if s.sr.s then
            (if s.macSum32 (a.toInt * b.toInt) < -2 ^ 31 ∨ 2 ^ 31 ≤ s.macSum32 (a.toInt * b.toInt) then s.mach ||| 1#32
              else s.mach)
          else BitVec.ofInt 32 (s.macSum (a.toInt * b.toInt) / 2 ^ 32)
        macl := if s.sr.s then BitVec.ofInt 32 (max (-2 ^ 31) (min (2 ^ 31 - 1) (s.macSum32 (a.toInt * b.toInt))))
          else BitVec.ofInt 32 (s.macSum (a.toInt * b.toInt)) } := by
  cases s.sr.s with
  | true => exact (congrArg u.setMac (macWordSaturating_mac s a b)).trans (u.setMac_append _ _)
  | false => exact (congrArg u.setMac (macWrapping_mac s _)).trans (u.setMac_ofInt _)

/-- Settles O18: a misaligned second operand stops the instruction after the first; otherwise the two operands are the
numbers in memory, and their product and the accumulator make the total. -/
theorem multiplyAccumulateLong : Obligations.MultiplyAccumulateLong := by
  intro m n s first second hfirst
  have hexec : exec (.macL m n) s = execMacL m n s := rfl
  rw [hexec, execMacL]
  refine ⟨fun hsecond => ?sum, fun hsecond => s.loadMacPair_misaligned .long m n _ hfirst hsecond⟩
  case sum =>
    rw [s.loadMacPair_of_both .long m n _ hfirst hsecond, macLong_mac, State.setMac_ofInt, toInt_readWidth_long,
      toInt_readWidth_long]
    rfl

/-- Settles O19 as O18; with S = 1 it is MACH and MACL that are set apart, not one 64-bit sum. -/
theorem multiplyAccumulateWord : Obligations.MultiplyAccumulateWord := by
  intro m n s first second hfirst
  have hexec : exec (.macW m n) s = execMacW m n s := rfl
  rw [hexec, execMacW]
  refine ⟨fun hsecond => ?sum, fun hsecond => s.loadMacPair_misaligned .word m n _ hfirst hsecond⟩
  case sum =>
    rw [s.loadMacPair_of_both .word m n _ hfirst hsecond, setMac_macWord, toInt_lowHalf_readWidth_word,
      toInt_lowHalf_readWidth_word]
    rfl

end Sys2Proof.Machine
end

section
/-! SUPPORT. The logic instructions: bitwise results on registers and immediates, and a byte read, combined and stored back. -/

namespace Sys2Proof.Machine

open Sys2Proof.Config Sys2Proof.Says

/-! ## O21 -/

theorem zext8_eq_ofNat (b : Byte) : zext8 b = BitVec.ofNat 32 b.toNat :=
  (BitVec.ofNat_toNat 32 b).symm

theorem not_eq_ofNat (x : Word) : ~~~x = BitVec.ofNat 32 (2 ^ 32 - 1 - x.toNat) := by
  rw [← BitVec.toNat_not, BitVec.ofNat_toNat, BitVec.setWidth_eq]

/-- Settles O21: each of the nine completes with a bitwise result in its destination or with a zero test of one in T, and the
immediates are zero-extended. -/
theorem logicOnRegisters : Obligations.LogicOnRegisters := by
  intro m n i s
  rw [← zext8_eq_ofNat]
  refine ⟨?andReg, ?andImm, ?notReg, ?orReg, ?orImm, ?tstReg, ?tstImm, ?xorReg, ?xorImm⟩
  case andReg => exact runs_wrote (nmCode_eq_nibbles _ n m _ (by decide)) rfl rfl
  case andImm => exact runs_wrote (byteCode_eq_nibbles _ i) rfl rfl
  case notReg => exact runs_wrote (nmCode_eq_nibbles _ n m _ (by decide)) rfl (not_eq_ofNat _)
  case orReg => exact runs_wrote (nmCode_eq_nibbles _ n m _ (by decide)) rfl rfl
  case orImm => exact runs_wrote (byteCode_eq_nibbles _ i) rfl rfl
  case tstReg => exact runs_setsT (nmCode_eq_nibbles _ n m _ (by decide)) rfl rfl
  case tstImm => exact runs_setsT (byteCode_eq_nibbles _ i) rfl rfl
  case xorReg => exact runs_wrote (nmCode_eq_nibbles _ n m _ (by decide)) rfl rfl
  case xorImm => exact runs_wrote (byteCode_eq_nibbles _ i) rfl rfl

/-! ## O22 -/

theorem lowByte_zext8 (b : Byte) : lowByte (zext8 b) = b := by
  rw [lowByte, zext8, BitVec.extractLsb'_setWidth_of_le (by decide), BitVec.extractLsb'_eq_self]

theorem zext8_or (a b : Byte) : zext8 (a ||| b) = zext8 a ||| zext8 b :=
  BitVec.setWidth_or

/-- A byte is read zero-extended (rule R9). -/
theorem Memory.readWidth_byte (m : Memory) (a : Nat) : m.readWidth .byte a = zext8 (m.read a) := rfl

/-- A stored byte stands at its address, and every other address reads as before. -/
theorem State.stored_poke_byte (s : State) (a : Word) (b : Byte) :
    Stored s (s.poke .byte a (zext8 b)) .byte a b.toNat := by
  have hvalue : (zext8 b).toNat = b.toNat := BitVec.toNat_setWidth_of_le (by decide)
  exact hvalue ▸ s.stored_poke .byte a (zext8 b)

/-- Where both accesses pass, the byte is read after one turn of the other bus masters and stored back after another (log
entry 25). -/
theorem State.modifyByte_of_accessible (s : State) (a : Word) (f : Byte → Byte) (hr : Accessible s .read .byte a)
    (hw : Accessible s .write .byte a) :
    s.modifyByte a f = (s.busTurn.busTurn.poke .byte a (zext8 (f (s.busTurn.mem.read a.toNat)))).complete := by
  have hw' : Accessible s.busTurn .write .byte a := hw
  rw [State.modifyByte, s.withLoad_of_accessible _ _ _ hr, State.storeAt, State.withStore_of_accessible _ _ _ _ _ hw',
    Memory.readWidth_byte, lowByte_zext8]

/-- An instruction that modifies the byte at an effective address. -/
theorem modifies_of_modifyByte {i : Instr} {ea : State → Word} {f : Byte → Byte}
    (hi : ∀ s, exec i s = s.modifyByte (ea s) f) : Modifies i ea f := by
  intro s hr hw
  refine ⟨_, (hi s).trans (s.modifyByte_of_accessible (ea s) f hr hw), rfl, ?_⟩
  exact s.busTurn.busTurn.stored_poke_byte (ea s) _

theorem exec_tstB (i : BitVec 8) (s : State) (h : Accessible s .read .byte (s.gbr + s.reg 0)) :
    exec (.tstB i) s
      = .next (setsT s.busTurn (decide (s.busTurn.mem.read (s.gbr + s.reg 0).toNat &&& i = 0#8))) := by
  have hexec : exec (.tstB i) s = execTstB i s := rfl
  rw [hexec, execTstB, eaGbrIndexed, s.withLoad_of_accessible _ _ _ h, Memory.readWidth_byte, lowByte_zext8]
  rfl

/-- Where both accesses of TAS.B pass, its read and its write share one turn of the other bus masters, and the lock is
released (rules R73, R268). -/
theorem exec_tasB (n : Reg) (s : State) (hr : Accessible s .read .byte (s.reg n))
    (hw : Accessible s .write .byte (s.reg n)) :
    exec (.tasB n) s = State.complete
      { (s.busTurn.setT (decide (s.busTurn.mem.read (s.reg n).toNat = 0#8))).poke .byte (s.reg n)
          (zext8 (s.busTurn.mem.read (s.reg n).toNat ||| 0x80#8)) with busLock := false } := by
  have hexec : exec (.tasB n) s = execTasB n s := rfl
  have hw' (t : Bool) : Accessible (State.setT { s.busTurn with busLock := true } t) .write .byte (s.reg n) := hw
  have hbit : zext8 0x80#8 = 0x80#32 := rfl
  rw [hexec, execTasB, s.withLoad_of_accessible _ _ _ hr]
  dsimp only [State.reg_busTurn]
  rw [State.withStore_of_accessible _ _ _ _ _ (hw' _), Memory.readWidth_byte, zext8_or, hbit,
    ← setWidth_beq_zero]
  exact congrArg State.complete (State.poke_of_locked (s.busTurn.setT _) .byte (s.reg n) _)

/-- Settles O22: the first three are `State.modifyByte` at `GBR + R0`, TST.B only reads there, and TAS.B reads and stores
under the lock. -/
theorem logicOnMemory : Obligations.LogicOnMemory := by
  intro n i
  refine ⟨?andB, ?orB, ?xorB, exec_tstB i, fun s hr hw => ?tasB⟩
  case andB => exact modifies_of_modifyByte fun _ => rfl
  case orB => exact modifies_of_modifyByte fun _ => rfl
  case xorB => exact modifies_of_modifyByte fun _ => rfl
  case tasB => exact ⟨_, exec_tasB n s hr hw, rfl, s.busTurn.stored_poke_byte (s.reg n) _⟩

end Sys2Proof.Machine
end

section
/-! SUPPORT. The shift and rotate instructions: one-bit moves with the bit that enters and the bit that leaves, and shifts by
2, 8 and 16. -/

namespace Sys2Proof.Machine

open Sys2Proof.Config Sys2Proof.Says

/-! ## Shifts as multiplication and division -/

theorem shiftLeft_eq_ofNat (x : Word) (k : Nat) : x <<< k = BitVec.ofNat 32 (x.toNat * 2 ^ k) := by
  apply BitVec.eq_of_toNat_eq
  rw [BitVec.toNat_shiftLeft, Nat.shiftLeft_eq, BitVec.toNat_ofNat]

theorem ushiftRight_eq_ofNat (x : Word) (k : Nat) : x >>> k = BitVec.ofNat 32 (x.toNat / 2 ^ k) := by
  rw [← Nat.shiftRight_eq_div_pow, ← BitVec.toNat_ushiftRight, BitVec.ofNat_toNat, BitVec.setWidth_eq]

/-- Settles O24: each of the six completes with the shifted register, which is its product with or its quotient by a power of
two, and T stays. -/
theorem multiBitShifts : Obligations.MultiBitShifts := by
  intro n s
  refine ⟨?shll2, ?shlr2, ?shll8, ?shlr8, ?shll16, ?shlr16⟩
  case shll2 => exact runs_wrote (nCode_eq_nibbles _ n _ (by decide)) rfl (shiftLeft_eq_ofNat _ 2)
  case shlr2 => exact runs_wrote (nCode_eq_nibbles _ n _ (by decide)) rfl (ushiftRight_eq_ofNat _ 2)
  case shll8 => exact runs_wrote (nCode_eq_nibbles _ n _ (by decide)) rfl (shiftLeft_eq_ofNat _ 8)
  case shlr8 => exact runs_wrote (nCode_eq_nibbles _ n _ (by decide)) rfl (ushiftRight_eq_ofNat _ 8)
  case shll16 => exact runs_wrote (nCode_eq_nibbles _ n _ (by decide)) rfl (shiftLeft_eq_ofNat _ 16)
  case shlr16 => exact runs_wrote (nCode_eq_nibbles _ n _ (by decide)) rfl (ushiftRight_eq_ofNat _ 16)

/-! ## The bit at either end of a register -/

/-- Bit 31 as a number. -/
theorem bit_msb (x : Word) : bit x.msb = x.toNat / 2 ^ 31 := by
  have hx := x.isLt
  rw [bit_eq_toNat, BitVec.msb_eq_getLsbD_last, BitVec.getLsbD, Nat.toNat_testBit]
  omega

theorem getLsbD_zero_eq_decide (x : Word) : x.getLsbD 0 = decide (x.toNat % 2 = 1) :=
  Nat.testBit_zero x.toNat

/-- Bit 0 as a number. -/
theorem bit_getLsbD_zero (x : Word) : bit (x.getLsbD 0) = x.toNat % 2 := by
  rw [bit_eq_toNat, BitVec.getLsbD, Nat.toNat_testBit, Nat.pow_zero, Nat.div_one]

/-! ## One-bit moves with the bit that enters -/

/-- A flag shifted to bit 31 counts 2^31. -/
theorem ofBool_shiftLeft_eq_ofNat (t : Bool) :
    (BitVec.ofBool t).setWidth 32 <<< 31 = BitVec.ofNat 32 (bit t * 2 ^ 31) := by
  cases t <;> rfl

/-- A shift to the right by one leaves bit 31 free for the bit that enters. -/
theorem ushiftRight_one_and_ofBool (x : Word) (t : Bool) :
    x >>> 1 &&& (BitVec.ofBool t).setWidth 32 <<< 31 = 0#32 := by
  have hfree : (x >>> 1).getLsbD 31 = false := BitVec.getLsbD_of_ge x 32 (by decide)
  cases t with
  | false => exact BitVec.and_zero
  | true => exact (BitVec.and_twoPow (x >>> 1) 31).trans (by rw [hfree]; rfl)

/-- Half the register, and the bit that enters at bit 31 (rules R292, R294). -/
theorem ushiftRight_one_or_ofBool (x : Word) (t : Bool) :
    x >>> 1 ||| (BitVec.ofBool t).setWidth 32 <<< 31 = BitVec.ofNat 32 (x.toNat / 2 + bit t * 2 ^ 31) := by
  rw [← BitVec.add_eq_or_of_and_eq_zero _ _ (ushiftRight_one_and_ofBool x t), ushiftRight_eq_ofNat,
    ofBool_shiftLeft_eq_ofNat, BitVec.ofNat_add, Nat.pow_one]

/-- The bit that enters a rotation to the left is the old bit 31 (rule R291). -/
theorem rotateLeft_one_eq_ofNat (x : Word) : x.rotateLeft 1 = BitVec.ofNat 32 (x.toNat * 2 + x.toNat / 2 ^ 31) := by
  have hin : x >>> 31 = (BitVec.ofBool x.msb).setWidth 32 := by
    rw [ushiftRight_eq_ofNat, setWidth_ofBool_eq_bit, bit_msb]
  calc x.rotateLeft 1
    _ = divShift x x.msb := congrArg (x <<< 1 ||| ·) hin
    _ = BitVec.ofNat 32 (x.toNat * 2 + x.toNat / 2 ^ 31) := by rw [divShift_eq, bit_msb]

/-- The bit that enters a rotation to the right is the old bit 0 (rule R292). -/
theorem rotateRight_one_eq_ofNat (x : Word) :
    x.rotateRight 1 = BitVec.ofNat 32 (x.toNat / 2 + x.toNat % 2 * 2 ^ 31) := by
  have hin : x <<< 31 = (BitVec.ofBool (x.getLsbD 0)).setWidth 32 <<< 31 := by
    rw [shiftLeft_eq_ofNat, ofBool_shiftLeft_eq_ofNat, bit_getLsbD_zero]
    apply BitVec.eq_of_toNat_eq
    rw [BitVec.toNat_ofNat, BitVec.toNat_ofNat]
    omega
  calc x.rotateRight 1
    _ = x >>> 1 ||| (BitVec.ofBool (x.getLsbD 0)).setWidth 32 <<< 31 := congrArg (x >>> 1 ||| ·) hin
    _ = BitVec.ofNat 32 (x.toNat / 2 + x.toNat % 2 * 2 ^ 31) := by rw [ushiftRight_one_or_ofBool, bit_getLsbD_zero]

/-- The bit that enters an arithmetic shift to the right is the old bit 31 (rule R296). -/
theorem sshiftRight_one_eq_ofNat (x : Word) :
    x.sshiftRight 1 = BitVec.ofNat 32 (x.toNat / 2 + x.toNat / 2 ^ 31 * 2 ^ 31) := by
  have hx := x.isLt
  apply BitVec.eq_of_toNat_eq
  rw [BitVec.toNat_sshiftRight, BitVec.toNat_ofNat, Nat.shiftRight_eq_div_pow, Nat.shiftRight_eq_div_pow, ← bit_msb]
  cases x.msb with
  | false =>
    rw [if_neg Bool.false_ne_true, bit_false]
    omega
  | true =>
    rw [if_pos rfl, bit_true]
    omega

/-! ## O23 -/

/-- An instruction that completes with a value in `R[n]` and the old bit 31 of `R[n]` in T, and is encoded by this code. -/
theorem runs_wroteT_msb {code : Half} {i : Instr} {s : State} {n : Reg} {v v' : Word} (hcode : code = encodeWord i)
    (hi : exec i s = s.setRegT n (v, (s.reg n).msb)) (hv : v = v') :
    Runs code i s (wroteT s n v' (decide (2 ^ 31 ≤ (s.reg n).toNat))) :=
  runs_wroteT hcode hi (congrArg₂ Prod.mk hv (BitVec.msb_eq_decide _))

/-- An instruction that completes with a value in `R[n]` and the old bit 0 of `R[n]` in T, and is encoded by this code. -/
theorem runs_wroteT_lsb {code : Half} {i : Instr} {s : State} {n : Reg} {v v' : Word} (hcode : code = encodeWord i)
    (hi : exec i s = s.setRegT n (v, (s.reg n).getLsbD 0)) (hv : v = v') :
    Runs code i s (wroteT s n v' (decide ((s.reg n).toNat % 2 = 1))) :=
  runs_wroteT hcode hi (congrArg₂ Prod.mk hv (getLsbD_zero_eq_decide _))

/-- Settles O23: each of the eight completes with the moved register, the bit that enters added to twice or half the old
value, and with the bit that left in T. -/
theorem oneBitShifts : Obligations.OneBitShifts := by
  intro n s
  refine ⟨?rotl, ?rotr, ?rotcl, ?rotcr, ?shal, ?shar, ?shll, ?shlr⟩
  case rotl => exact runs_wroteT_msb (nCode_eq_nibbles _ n _ (by decide)) rfl (rotateLeft_one_eq_ofNat _)
  case rotr => exact runs_wroteT_lsb (nCode_eq_nibbles _ n _ (by decide)) rfl (rotateRight_one_eq_ofNat _)
  case rotcl => exact runs_wroteT_msb (nCode_eq_nibbles _ n _ (by decide)) rfl (divShift_eq _ _)
  case rotcr => exact runs_wroteT_lsb (nCode_eq_nibbles _ n _ (by decide)) rfl (ushiftRight_one_or_ofBool _ _)
  case shal => exact runs_wroteT_msb (nCode_eq_nibbles _ n _ (by decide)) rfl (shiftLeft_eq_ofNat _ 1)
  case shar => exact runs_wroteT_lsb (nCode_eq_nibbles _ n _ (by decide)) rfl (sshiftRight_one_eq_ofNat _)
  case shll => exact runs_wroteT_msb (nCode_eq_nibbles _ n _ (by decide)) rfl (shiftLeft_eq_ofNat _ 1)
  case shlr => exact runs_wroteT_lsb (nCode_eq_nibbles _ n _ (by decide)) rfl (ushiftRight_eq_ofNat _ 1)

end Sys2Proof.Machine
end

section
/-! SUPPORT. The branch instructions outside a delay slot: targets in exact arithmetic, conditional branches with and without
a slot, and delayed branches that save PR. -/

namespace Sys2Proof.Machine

open Sys2Proof.Config Sys2Proof.Says

/-! ## Targets -/

/-- A displacement is sign-extended, doubled and counted from `pc + 4` (rule R97), whatever its width. -/
theorem add_four_add_signExtend_mul_two {k : Nat} (pc : Word) (d : BitVec k) :
    pc + 4#32 + d.signExtend 32 * 2#32 = BitVec.ofInt 32 ((pc.toNat : Int) + 4 + 2 * signed k d.toNat) := by
  rw [signExtend_eq_ofInt_signed, BitVec.mul_comm, BitVec.ofInt_add, BitVec.ofInt_add, BitVec.ofInt_mul, ofInt_toNat]
  rfl

theorem target8_eq (s : State) (d : BitVec 8) :
    target8 s d = BitVec.ofInt 32 ((s.pc.toNat : Int) + 4 + 2 * signed 8 d.toNat) :=
  add_four_add_signExtend_mul_two s.pc d

theorem target12_eq (s : State) (d : BitVec 12) :
    target12 s d = BitVec.ofInt 32 ((s.pc.toNat : Int) + 4 + 2 * signed 12 d.toNat) :=
  add_four_add_signExtend_mul_two s.pc d

theorem targetReg_eq (s : State) (m : Reg) :
    targetReg s m = BitVec.ofNat 32 (s.pc.toNat + 4 + (s.reg m).toNat) := by
  rw [targetReg, add_eq_ofNat, add_eq_ofNat]
  refine BitVec.eq_of_toNat_eq ?_
  rw [BitVec.toNat_ofNat, BitVec.toNat_ofNat, BitVec.toNat_ofNat, Nat.mod_add_mod]
  rfl

/-! ## Conditional branches -/

/-- Outside a slot only PC tells a taken branch from an untaken one (rule R321). -/
theorem State.branchIf_of_no_slot (s : State) (taken : Bool) (target : Word) (h : s.slot = none) :
    s.branchIf taken target = .next { moved s with pc := if taken then target else s.pc + 2#32 } := by
  cases taken with
  | true => rfl
  | false =>
    have hpc : (if false then target else s.pc + 2#32) = s.nextPc := (s.nextPc_of_no_slot h).symm
    rw [hpc]
    rfl

/-- An untaken delayed branch only moves on, with no slot (decision D22). -/
theorem State.delayedBranchIf_eq (s : State) (taken : Bool) (target : Word) :
    s.delayedBranchIf taken target = .next (if taken then delayed s target else moved s) := by
  cases taken with
  | true => rfl
  | false => rfl

/-- BF and BF/S test the inverse of T: the two ways out change places. -/
theorem ite_not_eq_ite {α : Type} (t : Bool) (x y : α) : (if (!t) then x else y) = if t then y else x := by
  cases t <;> rfl

/-- An instruction that branches without delay, and is encoded by this code. -/
theorem runs_branchIf {code : Half} {i : Instr} {s : State} {taken : Bool} {target pc : Word} (hslot : s.slot = none)
    (hcode : code = encodeWord i) (hi : exec i s = s.outsideSlot (s.branchIf taken target))
    (hpc : (if taken then target else s.pc + 2#32) = pc) : Runs code i s { moved s with pc := pc } := by
  refine ⟨hcode ▸ decodeWord_encodeWord i, ?_⟩
  rw [hi, s.outsideSlot_of_no_slot _ hslot, s.branchIf_of_no_slot taken target hslot, hpc]

/-- An instruction that branches with a slot or moves on without one. -/
theorem exec_delayedBranchIf {i : Instr} {s t : State} {taken : Bool} {target : Word} (hslot : s.slot = none)
    (hi : exec i s = s.outsideSlot (s.delayedBranchIf taken target))
    (ht : (if taken then delayed s target else moved s) = t) : exec i s = .next t := by
  rw [hi, s.outsideSlot_of_no_slot _ hslot, s.delayedBranchIf_eq, ht]

/-- Settles O25: each of the two is `State.branchIf` outside a slot, BF with T inverted. -/
theorem conditionalBranches : Obligations.ConditionalBranches := by
  intro d s hslot
  rw [← target8_eq]
  constructor
  case left => exact runs_branchIf hslot (byteCode_eq_nibbles _ d) rfl (ite_not_eq_ite _ _ _)
  case right => exact runs_branchIf hslot (byteCode_eq_nibbles _ d) rfl rfl

/-- Settles O26: each of the two is `State.delayedBranchIf` outside a slot, BF/S with T inverted. -/
theorem delayedConditionalBranches : Obligations.DelayedConditionalBranches := by
  intro d s hslot
  rw [← target8_eq]
  constructor
  case left => exact exec_delayedBranchIf hslot rfl (ite_not_eq_ite _ _ _)
  case right => exact exec_delayedBranchIf hslot rfl rfl

/-! ## Delayed branches -/

/-- An instruction that branches with a slot. -/
theorem exec_delayedBranch {i : Instr} {s : State} {target target' : Word} (hslot : s.slot = none)
    (hi : exec i s = s.outsideSlot (s.delayedBranch target)) (htarget : target = target') :
    exec i s = .next (delayed s target') := by
  rw [hi, s.outsideSlot_of_no_slot _ hslot, htarget]
  rfl

/-- An instruction that branches with a slot and saves the address behind the slot in PR. -/
theorem exec_link_delayedBranch {i : Instr} {s : State} {target target' : Word} (hslot : s.slot = none)
    (hi : exec i s = s.outsideSlot (s.link.delayedBranch target)) (htarget : target = target') :
    exec i s = .next { delayed s target' with pr := s.pc + 4#32 } := by
  rw [hi, s.outsideSlot_of_no_slot _ hslot, htarget]
  rfl

/-- Settles O27: each of the seven is `State.delayedBranch` outside a slot, after `State.link` for BSR, BSRF and JSR. -/
theorem delayedBranches : Obligations.DelayedBranches := by
  intro e m s hslot
  refine ⟨?bra, ?braf, ?bsr, ?bsrf, ?jmp, ?jsr, ?rts⟩
  case bra => exact exec_delayedBranch hslot rfl (target12_eq s e)
  case braf => exact exec_delayedBranch hslot rfl (targetReg_eq s m)
  case bsr => exact exec_link_delayedBranch hslot rfl (target12_eq s e)
  case bsrf => exact exec_link_delayedBranch hslot rfl (targetReg_eq s m)
  case jmp => exact exec_delayedBranch hslot rfl rfl
  case jsr => exact exec_link_delayedBranch hslot rfl rfl
  case rts => exact exec_delayedBranch hslot rfl rfl

end Sys2Proof.Machine
end

section
/-! SUPPORT. The system control instructions: the flags and the accumulator, transfers of the control and system registers
with the interrupt inhibit of rule R361, the return from an exception, SLEEP and TRAPA. -/

namespace Sys2Proof.Machine

open Sys2Proof.Config Sys2Proof.Says

/-! ## O29 -/

/-- Settles O29: the two that write T, the one that clears the accumulator, and the one that only moves on. -/
theorem flagAndAccumulatorClears : Obligations.FlagAndAccumulatorClears := by
  intro s
  refine ⟨?clrt, ?clrmac, ?nop, ?sett⟩
  case clrt => exact runs_setsT rfl rfl rfl
  case clrmac => exact runs_setMac rfl rfl (s.setMac_append 0#32 0#32)
  case nop => exact ⟨decodeWord_encodeWord .nop, rfl⟩
  case sett => exact runs_setsT rfl rfl rfl

/-! ## SR from a word -/

/-- SR after a write takes the field of each of its bits (rule R25). -/
theorem Sr.ofWord_eq_srOf (w : Word) : Sr.ofWord w = srOf w := by
  have hmask : w.extractLsb' 4 4 = BitVec.ofNat 4 (w.toNat / 16) := by
    rw [BitVec.extractLsb', Nat.shiftRight_eq_div_pow]
  rw [Sr.ofWord, hmask]
  rfl

/-! ## Interrupt-disabled transfers between registers -/

/-- An interrupt-disabled instruction that leaves `u` before it completes, and is encoded by this code. -/
theorem runs_inhibited {code : Half} {i : Instr} {s u t : State} (hcode : code = encodeWord i)
    (hi : exec i s = u.completeInhibited) (hu : moved u = t) : Runs code i s (inhibited t) :=
  ⟨hcode ▸ decodeWord_encodeWord i, hi.trans (congrArg (fun t => Host.Outcome.next (inhibited t)) hu)⟩

/-- An interrupt-disabled instruction that completes with a value in `R[n]`, and is encoded by this code. -/
theorem runs_inhibited_wrote {code : Half} {i : Instr} {s : State} {n : Reg} {v v' : Word} (hcode : code = encodeWord i)
    (hi : exec i s = (s.setReg n v).completeInhibited) (hv : v = v') : Runs code i s (inhibited (wrote s n v')) :=
  runs_inhibited hcode hi (congrArg (wrote s n) hv)

/-- Settles O30: each of the twelve completes with one register written and the inhibit set; SR goes through its mask. -/
theorem controlAndSystemRegisters : Obligations.ControlAndSystemRegisters := by
  intro m n s
  refine ⟨?ldcSr, ?ldcGbr, ?ldcVbr, ?ldsMach, ?ldsMacl, ?ldsPr, ?stcSr, ?stcGbr, ?stcVbr, ?stsMach, ?stsMacl, ?stsPr⟩
  case ldcSr =>
    rw [← Sr.ofWord_eq_srOf]
    exact runs_inhibited (nCode_eq_nibbles _ m _ (by decide)) rfl rfl
  case ldcGbr => exact runs_inhibited (nCode_eq_nibbles _ m _ (by decide)) rfl rfl
  case ldcVbr => exact runs_inhibited (nCode_eq_nibbles _ m _ (by decide)) rfl rfl
  case ldsMach => exact runs_inhibited (nCode_eq_nibbles _ m _ (by decide)) rfl rfl
  case ldsMacl => exact runs_inhibited (nCode_eq_nibbles _ m _ (by decide)) rfl rfl
  case ldsPr => exact runs_inhibited (nCode_eq_nibbles _ m _ (by decide)) rfl rfl
  case stcSr => exact runs_inhibited_wrote (nCode_eq_nibbles _ n _ (by decide)) rfl s.sr.toWord_eq_srWord
  case stcGbr => exact runs_inhibited_wrote (nCode_eq_nibbles _ n _ (by decide)) rfl rfl
  case stcVbr => exact runs_inhibited_wrote (nCode_eq_nibbles _ n _ (by decide)) rfl rfl
  case stsMach => exact runs_inhibited_wrote (nCode_eq_nibbles _ n _ (by decide)) rfl rfl
  case stsMacl => exact runs_inhibited_wrote (nCode_eq_nibbles _ n _ (by decide)) rfl rfl
  case stsPr => exact runs_inhibited_wrote (nCode_eq_nibbles _ n _ (by decide)) rfl rfl

/-! ## Transfers between memory and a register that is no general register -/

/-- A longword is loaded as it stands: its sign extension is itself. -/
theorem Memory.readWidth_long_eq_loaded (m : Memory) (a : Nat) : m.readWidth .long a = loaded m .long a :=
  extendLoaded_readWidth m .long a

/-- An instruction that loads at `@Rm+` and goes on with `body`. -/
theorem loadsInto_of_loadLongInc {i : Instr} {m : Reg} {ready : State → Prop} {put after : State → Word → State}
    {body : State → Result} (hi : ∀ s, ready s → exec i s = s.andThen (s.loadLongInc m put) body)
    (hafter : ∀ s v, body ((put s v).setReg m (s.reg m + 4#32)) = .next (after s v)) :
    LoadsInto i .long (fun s => s.reg m) ready after := by
  intro s hs ha
  rw [hi s hs, State.andThen_loadLongInc, s.withLoad_of_accessible .long (s.reg m) _ ha,
    Memory.readWidth_long_eq_loaded]
  exact hafter s.busTurn _

/-- An instruction that stores at `@-Rn` and goes on with `body`. -/
theorem storesAt_of_storeLongDec {i : Instr} {n : Reg} {ready : State → Prop} {v v' : State → Word}
    {after : State → Word → State} {body : State → Result}
    (hi : ∀ s, ready s → exec i s = s.andThen (s.storeLongDec n (v s)) body) (hv : ∀ s, v s = v' s)
    (hafter : ∀ (s : State) (a x : Word), ∃ t,
      body ((s.poke .long a x).setReg n a) = .next t ∧ StoredThen s t .long a x.toNat (after s a)) :
    StoresAt i .long (fun s => s.reg n - 4#32) ready v' fun s => after s (s.reg n - 4#32) := by
  intro s hs ha
  rw [hi s hs, State.andThen_storeLongDec, s.withStore_of_accessible .long (eaPreDec s .long n) _ _ ha, hv]
  exact hafter s.busTurn (s.reg n - 4#32) (v' s)

/-- An interrupt-disabled instruction completes after its store and after its address register has moved. -/
theorem completeInhibited_storedThen (n : Reg) (s : State) (a x : Word) : ∃ t,
    ((s.poke .long a x).setReg n a).completeInhibited = .next t
      ∧ StoredThen s t .long a x.toNat (inhibited (wrote s n a)) :=
  ⟨_, rfl, rfl, s.stored_poke .long a x⟩

/-- Settles O31: each of the twelve is `State.loadLongInc` or `State.storeLongDec` of its register, then the inhibit. -/
theorem controlAndSystemRegistersInMemory : Obligations.ControlAndSystemRegistersInMemory := by
  intro m n
  refine ⟨?ldcLSr, ?_, ?_, ?_, ?_, ?_, ?stcLSr, ?_, ?_, ?_, ?_, ?_⟩
  -- SR goes through its mask, and is stored as a word
  case ldcLSr =>
    simp only [← Sr.ofWord_eq_srOf]
    exact loadsInto_of_loadLongInc (fun _ _ => rfl) fun _ _ => rfl
  case stcLSr =>
    exact storesAt_of_storeLongDec (fun _ _ => rfl) (fun s => s.sr.toWord_eq_srWord) (completeInhibited_storedThen n)
  -- GBR, VBR, MACH, MACL and PR move as they are
  iterate 5 exact loadsInto_of_loadLongInc (fun _ _ => rfl) fun _ _ => rfl
  iterate 5 exact storesAt_of_storeLongDec (fun _ _ => rfl) (fun _ => rfl) (completeInhibited_storedThen n)

/-! ## The return from an exception -/

/-- A longword is the value that its four bytes make (rule R61). -/
theorem Memory.readWidth_long_eq_ofNat (m : Memory) (a : Nat) :
    m.readWidth .long a = BitVec.ofNat 32 (bytesValue m a 4) := by
  rw [← Memory.readWidth_long_toNat, BitVec.ofNat_toNat, BitVec.setWidth_eq]

theorem State.setReg_setReg (s : State) (n : Reg) (v v' : Word) : (s.setReg n v).setReg n v' = s.setReg n v' := by
  simp [State.setReg]

theorem State.busTurn_setReg (s : State) (n : Reg) (v : Word) : (s.setReg n v).busTurn = s.busTurn.setReg n v := rfl

/-- Where both pops pass, R15 has moved on by 8, over the longwords that go to PC and to SR (rules R72, R377). -/
theorem State.returnFromException_of_accessible (s : State) (hpc : Accessible s .read .long (s.reg 15))
    (hsr : Accessible s .read .long (s.reg 15 + 4#32)) :
    s.returnFromException = State.delayedBranch
      { s.busTurn.busTurn.setReg 15 (s.reg 15 + 8#32) with
        sr := Sr.ofWord (s.busTurn.busTurn.mem.readWidth .long (s.reg 15 + 4#32).toNat) }
      (s.busTurn.mem.readWidth .long (s.reg 15).toNat) := by
  have hsr' : Accessible (s.busTurn.setReg 15 (s.reg 15 + 4#32)) .read .long (s.reg 15 + 4#32) := hsr
  have hsp : s.reg 15 + 4#32 + 4#32 = s.reg 15 + 8#32 := BitVec.add_assoc ..
  rw [State.returnFromException_eq, s.withLoad_of_accessible .long _ _ hpc, State.reg_setReg_self,
    State.withLoad_of_accessible _ .long _ _ hsr', State.busTurn_setReg, State.setReg_setReg, hsp, State.mem_setReg]

/-- Settles O32: outside a slot RTE is `State.returnFromException`, and what it pops are the numbers in memory. -/
theorem returnFromException : Obligations.ReturnFromException := by
  intro s hslot hpc hsr s1 s2
  have hexec : exec .rte s = s.outsideSlot s.returnFromException := rfl
  rw [hexec, s.outsideSlot_of_no_slot _ hslot, s.returnFromException_of_accessible hpc hsr, Sr.ofWord_eq_srOf,
    Memory.readWidth_long_eq_ofNat, Memory.readWidth_long_eq_ofNat]
  rfl

/-! ## SLEEP -/

@[simp] theorem reg_absorbed (s : State) (n : Reg) : (absorbed s).reg n = s.reg n := by
  unfold absorbed; split <;> rfl
@[simp] theorem vbr_absorbed (s : State) : (absorbed s).vbr = s.vbr := by
  unfold absorbed; split <;> rfl

theorem State.cpuStep_of_asleep (s : State) (h : s.mode = .asleep) : s.cpuStep = s.sleepStep := by
  simp [State.cpuStep, h]

theorem step_of_asleep (s : State) (hmode : s.mode = .asleep) (hreset : NoReset s) :
    step s = (absorbed s).sleepStep := by
  rw [step_of_noReset s hreset, State.cpuStep_of_asleep _ (by rw [mode_absorbed, hmode])]

/-- Nothing but a pending FPU exception or an eligible request ends sleep (rule R561). -/
theorem State.sleepStep_of_nothing_due (s : State) (hf : s.fpuPending = none) (hi : ∀ r ∈ s.irq, ¬ Eligible s r) :
    s.sleepStep = .next s := by
  have hpick : pickIrq s.platform.vec s.sr.i s.irq = none :=
    pickIrq_eq_none _ _ _ fun r hr he => hi r hr ((irqEligible_iff s r).mp he)
  simp [State.sleepStep, hf, hpick]

theorem State.sleepStep_of_fpuPending (s : State) (k : Nat) (h : s.fpuPending = some k) : s.sleepStep = s.enterFpu := by
  simp [State.sleepStep, h]

/-- A pending FPU exception is entered at the boundary before `pc`, from the state it has woken (rules R513, R561). -/
theorem State.enterFpu_of_frameReady (s : State)
    (h : FrameReady { s with fpuPending := none, mode := .running } 13#8) :
    ∃ t, s.enterFpu = .next t ∧ Entered { s with fpuPending := none, mode := .running } t 13#8 s.pc s.sr :=
  State.enter_of_frameReady _ _ _ h

/-- The platform's turn and waking leave a frame as ready as it was. -/
theorem frameReady_woken (s : State) (v : BitVec 8) (h : FrameReady s v) :
    FrameReady { absorbed s with fpuPending := none, mode := .running } v := by
  have hreg : (absorbed s).regs[15] = s.regs[15] := reg_absorbed s 15
  simpa [FrameReady, Accessible, State.reg, hreg] using h

/-- Settles O33: SLEEP completes with the mode alone changed; a step asleep is `State.sleepStep`, which stays where nothing is
due and enters the FPU exception where one is pending. -/
theorem sleepAndWake : Obligations.SleepAndWake := by
  intro s
  refine ⟨rfl, fun hmode hreset hf hi => ?stays, fun k hmode hreset hf hready => ?wakes⟩
  case stays =>
    rw [step_of_asleep s hmode hreset]
    exact (absorbed s).sleepStep_of_nothing_due (by rw [fpuPending_absorbed, hf]) (by simpa [Eligible] using hi)
  case wakes =>
    rw [step_of_asleep s hmode hreset, (absorbed s).sleepStep_of_fpuPending k (by rw [fpuPending_absorbed, hf]),
      ← pc_absorbed s, ← sr_absorbed s]
    exact (absorbed s).enterFpu_of_frameReady (frameReady_woken s _ hready)

/-! ## O34 -/

/-- Settles O34: outside a slot TRAPA is the entry of its vector number, which succeeds where the frame is ready. -/
theorem trapEntry : Obligations.TrapEntry := by
  intro i s hslot hready
  rw [exec_trapa_of_no_slot i s hslot]
  exact s.enter_of_frameReady i (s.pc + 2#32) hready

end Sys2Proof.Machine
end

section
/-! SUPPORT. Single-precision patterns: their classes, their values, and rounding toward zero, on which the sums, products,
quotients and conversions of the FPU rest. -/

namespace Sys2Proof.Machine

open Sys2Proof.Config Sys2Proof.Says

/-! ## Patterns and their classes -/

theorem toNat_fpAbsBits (x : Word) : (fpAbsBits x).toNat = x.toNat % 2 ^ 31 := by
  rw [fpAbsBits, BitVec.toNat_and]
  exact Nat.and_two_pow_sub_one_eq_mod x.toNat 31

theorem fpSign_eq_negative (x : Word) : fpSign x = negative x :=
  BitVec.msb_eq_decide x

/-- The classes of rule R422 on the pattern as a number. -/
theorem fpClass_eq (x : Word) : fpClass x =
    if x.toNat % 2 ^ 31 < 0x00800000 then (if negative x then .nzero else .pzero)
    else if x.toNat % 2 ^ 31 < 0x7F800000 then .norm
    else if x.toNat % 2 ^ 31 = 0x7F800000 then (if negative x then .ninf else .pinf)
    else if x.toNat / 2 ^ 22 % 2 = 1 then .snan
    else .qnan := by
  simp only [fpClass, toNat_fpAbsBits, fpSign_eq_negative, BitVec.getLsbD, Nat.testBit_eq_decide_div_mod_eq,
    decide_eq_true_eq]

theorem fpClass_of_isZero {x : Word} (h : isZero x) : fpClass x = if negative x then .nzero else .pzero := by
  unfold isZero at h
  rw [fpClass_eq, if_pos (by omega)]

theorem fpClass_of_isNorm {x : Word} (h : isNorm x) : fpClass x = .norm := by
  unfold isNorm at h
  rw [fpClass_eq, if_neg (by omega), if_pos (by omega)]

theorem fpClass_of_isFinite {x : Word} (h : isFinite x) :
    fpClass x = .pzero ∨ fpClass x = .nzero ∨ fpClass x = .norm := by
  rcases h with h | h
  · rw [fpClass_of_isZero h]
    cases negative x
    · exact .inl rfl
    · exact .inr (.inl rfl)
  · exact .inr (.inr (fpClass_of_isNorm h))

theorem fpClass_of_isInf {x : Word} (h : isInf x) : fpClass x = if negative x then .ninf else .pinf := by
  unfold isInf at h
  rw [fpClass_eq, if_neg (by omega), if_neg (by omega), if_pos h]

theorem fpClass_of_isSNaN {x : Word} (h : isSNaN x) : fpClass x = .snan := by
  unfold isSNaN at h
  rw [fpClass_eq, if_neg (by omega), if_neg (by omega), if_neg (by omega), if_pos h.2]

theorem fpClass_of_isQNaN {x : Word} (h : isQNaN x) : fpClass x = .qnan := by
  unfold isQNaN at h
  rw [fpClass_eq, if_neg (by omega), if_neg (by omega), if_neg (by omega), if_neg (by omega)]

/-- Every pattern is of one of the five kinds of rule R422. -/
theorem isFinite_or_isInf_or_isNaN (x : Word) : isFinite x ∨ isInf x ∨ isSNaN x ∨ isQNaN x := by
  unfold isFinite isZero isNorm isInf isSNaN isQNaN
  omega

theorem fpClass_eq_snan_iff (x : Word) : fpClass x = .snan ↔ isSNaN x := by
  refine ⟨fun h => ?_, fpClass_of_isSNaN⟩
  rcases isFinite_or_isInf_or_isNaN x with (hx | hx) | hx | hx | hx
  · rw [fpClass_of_isZero hx] at h; split at h <;> contradiction
  · rw [fpClass_of_isNorm hx] at h; contradiction
  · rw [fpClass_of_isInf hx] at h; split at h <;> contradiction
  · exact hx
  · rw [fpClass_of_isQNaN hx] at h; contradiction

theorem fpClass_eq_qnan_iff (x : Word) : fpClass x = .qnan ↔ isQNaN x := by
  refine ⟨fun h => ?_, fpClass_of_isQNaN⟩
  rcases isFinite_or_isInf_or_isNaN x with (hx | hx) | hx | hx | hx
  · rw [fpClass_of_isZero hx] at h; split at h <;> contradiction
  · rw [fpClass_of_isNorm hx] at h; contradiction
  · rw [fpClass_of_isInf hx] at h; split at h <;> contradiction
  · rw [fpClass_of_isSNaN hx] at h; contradiction
  · exact hx

/-- An infinity is one of two patterns (rule R424). -/
theorem eq_infOf_of_isInf {x : Word} (h : isInf x) : x = infOf (negative x) := by
  unfold isInf at h
  refine BitVec.eq_of_toNat_eq ?_
  by_cases hneg : 2 ^ 31 ≤ x.toNat
  · rw [negative, decide_eq_true hneg, show (infOf true).toNat = 0xFF800000 from rfl]
    omega
  · rw [negative, decide_eq_false hneg, show (infOf false).toNat = 0x7F800000 from rfl]
    omega

theorem fpClass_infOf (sign : Bool) : fpClass (infOf sign) = if sign then .ninf else .pinf := by
  cases sign <;> rfl

/-! ## The value of a normalized number -/

theorem le_fpMant (x : Word) : 2 ^ 23 ≤ fpMant x := by
  unfold fpMant; omega

theorem fpMant_lt (x : Word) : fpMant x < 2 ^ 24 := by
  unfold fpMant; omega

theorem real_of_isZero {x : Word} (h : isZero x) : real x = 0 :=
  if_pos h

/-- A normalized number is its significand, as an integer, scaled (rule R422). -/
theorem real_of_isNorm {x : Word} (h : isNorm x) :
    real x = (if negative x then -1 else 1) * ((fpMant x : ℚ) * 2 ^ fpExp x) := by
  have hexp : (2 : ℚ) ^ (((x.toNat / 2 ^ 23 % 256 : ℕ) : ℤ) - 127) = 2 ^ 23 * 2 ^ fpExp x := by
    rw [← zpow_natCast, ← zpow_add₀ two_ne_zero, fpExp]
    congr 1
    norm_num
    omega
  have hmant : (fpMant x : ℚ) = 2 ^ 23 + ((x.toNat % 2 ^ 23 : ℕ) : ℚ) := by
    rw [fpMant]
    push_cast
    norm_num
  simp only [real, if_neg h.1, hexp, hmant, negative, decide_eq_true_eq]
  ring

theorem scaled_pos (x : Word) : 0 < (fpMant x : ℚ) * 2 ^ fpExp x :=
  mul_pos (by exact_mod_cast (le_fpMant x).trans_lt' (by norm_num)) (by positivity)

theorem abs_real_of_isNorm {x : Word} (h : isNorm x) : |real x| = (fpMant x : ℚ) * 2 ^ fpExp x := by
  rw [real_of_isNorm h, abs_mul, abs_of_pos (scaled_pos x)]
  split <;> simp

/-! ## Rounding toward zero -/

/-- A pattern put together from its sign, the biased exponent `k` and the significand `m`. -/
theorem pattern_fields {sign : Bool} {k m : Nat} (hk : 1 ≤ k) (hk' : k ≤ 254) (hm : 2 ^ 23 ≤ m) (hm' : m < 2 ^ 24) {w : Word}
    (hw : w = BitVec.ofNat 32 (fpSignBits sign + k * 0x800000 + (m - 0x800000))) :
    isNorm w ∧ negative w = sign ∧ fpMant w = m ∧ fpExp w = (k : ℤ) - 150 := by
  have htoNat : w.toNat = fpSignBits sign + k * 0x800000 + (m - 0x800000) := by
    rw [hw, BitVec.toNat_ofNat, Nat.mod_eq_of_lt]
    cases sign <;> simp only [fpSignBits, Bool.false_eq_true, if_false, if_true] <;> omega
  cases sign
  all_goals
    simp only [fpSignBits, Bool.false_eq_true, if_false, if_true] at htoNat
    simp only [isNorm, negative, fpMant, fpExp, decide_eq_true_eq, decide_eq_false_iff_not]
    omega

/-- The 24 most significant bits of a number, shifted to where a significand stands. -/
def topBits (num : Nat) : Nat :=
  if 23 ≤ Nat.log2 num then num / 2 ^ (Nat.log2 num - 23) else num * 2 ^ (23 - Nat.log2 num)

theorem topBits_bounds {num : Nat} (h : num ≠ 0) : 2 ^ 23 ≤ topBits num ∧ topBits num < 2 ^ 24 := by
  have hlow : 2 ^ num.log2 ≤ num := Nat.log2_self_le h
  have hhigh : num < 2 ^ (num.log2 + 1) := Nat.lt_log2_self
  unfold topBits
  split
  next hlead =>
    rw [Nat.le_div_iff_mul_le (by positivity), Nat.div_lt_iff_lt_mul (by positivity), ← Nat.pow_add, ← Nat.pow_add]
    rw [show 23 + (num.log2 - 23) = num.log2 by omega, show 24 + (num.log2 - 23) = num.log2 + 1 by omega]
    exact ⟨hlow, hhigh⟩
  next hlead =>
    have hscale : 2 ^ num.log2 * 2 ^ (23 - num.log2) = 2 ^ 23 := by
      rw [← Nat.pow_add, show num.log2 + (23 - num.log2) = 23 by omega]
    have hpos : 0 < 2 ^ (23 - num.log2) := by positivity
    rw [Nat.pow_succ] at hhigh
    constructor
    · rw [← hscale]
      exact Nat.mul_le_mul_right _ hlow
    · calc num * 2 ^ (23 - num.log2) < 2 ^ num.log2 * 2 * 2 ^ (23 - num.log2) := Nat.mul_lt_mul_of_pos_right hhigh hpos
        _ = 2 ^ num.log2 * 2 ^ (23 - num.log2) * 2 := by ring
        _ = 2 ^ 24 := by rw [hscale]; norm_num

/-- `fpTruncate` on a number that is not 0, by the exponent of its leading bit (rule R426). -/
theorem fpTruncate_eq (sign : Bool) {num : Nat} (e : ℤ) (h : num ≠ 0) : fpTruncate sign num e =
    if e + num.log2 < -126 then zeroOf sign
    else if 128 ≤ e + num.log2 then (if sign then 0xFF7FFFFF#32 else 0x7F7FFFFF#32)
    else BitVec.ofNat 32 (fpSignBits sign + (e + num.log2 + 127).toNat * 0x800000 + (topBits num - 0x800000)) :=
  if_neg h

/-- A number known to a unit of `2 ^ e` lies between two multiples of the weight of its last significant bit; where it has
fewer than 24 bits it has to be known exactly. -/
theorem topBits_brackets {num : Nat} {e : ℤ} {y : ℚ} (hlow : num * 2 ^ e ≤ y) (hhigh : y < (num + 1) * 2 ^ e)
    (hbits : 2 ^ 23 ≤ num ∨ y = num * 2 ^ e) :
    topBits num * (2 : ℚ) ^ (e + num.log2 - 23) ≤ y ∧ y < (topBits num + 1) * (2 : ℚ) ^ (e + num.log2 - 23) := by
  unfold topBits
  split
  next hlead =>
    have hunit : (2 : ℚ) ^ (e + num.log2 - 23) = ((2 ^ (num.log2 - 23) : ℕ) : ℚ) * 2 ^ e := by
      push_cast
      rw [← zpow_natCast, ← zpow_add₀ two_ne_zero]
      congr 1
      omega
    have hdiv := Nat.div_mul_le_self num (2 ^ (num.log2 - 23))
    have hmod := Nat.lt_mul_div_succ num (b := 2 ^ (num.log2 - 23)) (by positivity)
    have he : (0 : ℚ) < 2 ^ e := by positivity
    rw [hunit, ← mul_assoc, ← mul_assoc]
    constructor
    · refine le_trans (mul_le_mul_of_nonneg_right ?_ he.le) hlow
      exact_mod_cast hdiv
    · refine lt_of_lt_of_le hhigh (mul_le_mul_of_nonneg_right ?_ he.le)
      rw [mul_comm] at hmod
      exact_mod_cast hmod
  next hlead =>
    have hy : y = num * 2 ^ e := by
      refine hbits.resolve_left fun hnum => hlead ?_
      exact (Nat.le_log2 (by omega)).mpr hnum
    have hunit : (2 : ℚ) ^ e = ((2 ^ (23 - num.log2) : ℕ) : ℚ) * 2 ^ (e + num.log2 - 23) := by
      push_cast
      rw [← zpow_natCast, ← zpow_add₀ two_ne_zero]
      congr 1
      omega
    have hu : (0 : ℚ) < 2 ^ (e + num.log2 - 23) := by positivity
    rw [hy, hunit, ← mul_assoc]
    push_cast
    exact ⟨le_rfl, mul_lt_mul_of_pos_right (by linarith) hu⟩

/-- The leading bit of a number that is known to a unit of `2 ^ e`. -/
theorem leadingBit_brackets {num : Nat} {e : ℤ} {y : ℚ} (h : num ≠ 0) (hlow : num * 2 ^ e ≤ y)
    (hhigh : y < (num + 1) * 2 ^ e) :
    (2 : ℚ) ^ (e + num.log2) ≤ y ∧ y < (2 : ℚ) ^ (e + num.log2 + 1) := by
  have he : (0 : ℚ) < 2 ^ e := by positivity
  have hle : (2 : ℚ) ^ num.log2 ≤ num := by exact_mod_cast Nat.log2_self_le h
  have hlt : (num : ℚ) + 1 ≤ 2 ^ (num.log2 + 1) := by exact_mod_cast Nat.lt_log2_self
  constructor
  · rw [zpow_add₀ two_ne_zero, zpow_natCast, mul_comm]
    exact (mul_le_mul_of_nonneg_right hle he.le).trans hlow
  · rw [add_assoc, zpow_add₀ two_ne_zero, mul_comm]
    refine hhigh.trans_le (mul_le_mul_of_nonneg_right ?_ he.le)
    exact_mod_cast hlt

/-- `fpTruncate` rounds as rule R426 says: of a number it has to know 24 bits, or all of it. -/
theorem truncated_fpTruncate {num : Nat} {e : ℤ} {x : ℚ} (sign : Bool) (hlow : num * 2 ^ e ≤ |x|)
    (hhigh : |x| < (num + 1) * 2 ^ e) (hbits : 2 ^ 23 ≤ num ∨ |x| = num * 2 ^ e) :
    Truncated x sign (fpTruncate sign num e) := by
  by_cases h : num = 0
  case pos =>
    have hx : |x| = 0 := by simpa [h] using hbits
    have hmin : (0 : ℚ) < 2 ^ (-126 : ℤ) := by positivity
    have hmax : (0 : ℚ) < 2 ^ (128 : ℤ) := by positivity
    rw [fpTruncate, if_pos h, Truncated, hx]
    exact ⟨fun _ => rfl, fun hge => absurd hge hmax.not_ge, fun hge => absurd hge hmin.not_ge⟩
  case neg =>
    obtain ⟨hlead, hlead'⟩ := leadingBit_brackets h hlow hhigh
    have hmono : ∀ {i j : ℤ}, i ≤ j → (2 : ℚ) ^ i ≤ 2 ^ j := fun hij => zpow_le_zpow_right₀ one_le_two hij
    rw [fpTruncate_eq sign e h]
    split
    next hexp =>
      have hx : |x| < 2 ^ (-126 : ℤ) := hlead'.trans_le (hmono (by omega))
      exact ⟨fun _ => rfl, fun hge => absurd (hge.trans_lt hx) (hmono (by norm_num)).not_gt,
        fun hge => absurd hge hx.not_ge⟩
    next hmin =>
      split
      next hexp =>
        have hx : 2 ^ (128 : ℤ) ≤ |x| := (hmono hexp).trans hlead
        exact ⟨fun hlt => absurd (hlt.trans_le' hx) (hmono (by norm_num)).not_gt, fun _ => rfl,
          fun _ hlt => absurd hlt hx.not_gt⟩
      next hmax =>
        have hge : 2 ^ (-126 : ℤ) ≤ |x| := (hmono (by omega)).trans hlead
        have hlt : |x| < 2 ^ (128 : ℤ) := hlead'.trans_le (hmono (by omega))
        obtain ⟨hm, hm'⟩ := topBits_bounds h
        refine ⟨fun hx => absurd hx hge.not_gt, fun hx => absurd hx hlt.not_ge, fun _ _ => ?_⟩
        generalize hw : BitVec.ofNat 32 _ = w
        obtain ⟨hnorm, hneg, hmant, hfpExp⟩ := pattern_fields (by omega) (by omega) hm hm' hw.symm
        have hunit : (((w.toNat / 2 ^ 23 % 256 : ℕ) : ℤ) - 150) = e + num.log2 - 23 := by
          have : fpExp w = ((w.toNat / 2 ^ 23 % 256 : ℕ) : ℤ) - 150 := rfl
          omega
        obtain ⟨hbelow, habove⟩ := topBits_brackets hlow hhigh hbits
        rw [abs_real_of_isNorm hnorm, hmant, hunit, show fpExp w = e + num.log2 - 23 by omega, ← add_one_mul]
        exact ⟨hnorm, hneg, hbelow, habove⟩

theorem truncated_fpTruncate_of_eq {num : Nat} {e : ℤ} {x : ℚ} (sign : Bool) (h : |x| = num * 2 ^ e) :
    Truncated x sign (fpTruncate sign num e) := by
  refine truncated_fpTruncate sign h.ge ?_ (.inr h)
  rw [h]
  exact mul_lt_mul_of_pos_right (lt_add_one _) (by positivity)

end Sys2Proof.Machine
end

section
/-! SUPPORT. Sums, products and quotients of every pair of patterns: NaNs, the tables for infinities and zeros, and the exact
result truncated. -/

namespace Sys2Proof.Machine

open Sys2Proof.Config Sys2Proof.Says

/-! ## NaN operands -/

/-- An operation that looks for NaNs first (rule R425). -/
theorem nansFirst_of_fpNaNFirst {q r : FpResult} {a b : Word} {other : Prop}
    (hq : q = fpNaNFirst (fpClass a) (fpClass b) r) (h : q = r → other) : NaNsFirst q a b other := by
  simp only [NaNsFirst, ← fpClass_eq_snan_iff, ← fpClass_eq_qnan_iff]
  refine ⟨fun hs => ?_, fun hs hn => ?_, fun hs hn => h ?_⟩
  · rw [hq, fpNaNFirst, if_pos hs]
  · rw [hq, fpNaNFirst, if_neg hs, if_pos hn]; rfl
  · rw [hq, fpNaNFirst, if_neg hs, if_neg hn]

/-! ## Sums -/

theorem fpScaled_mul {x : Word} (h : isNorm x) {e : ℤ} (he : e ≤ fpExp x) : (fpScaled x e : ℚ) * 2 ^ e = real x := by
  have hexp : (2 : ℚ) ^ fpExp x = 2 ^ (fpExp x - e).toNat * 2 ^ e := by
    rw [← zpow_natCast, ← zpow_add₀ two_ne_zero]
    congr 1
    omega
  rw [real_of_isNorm h, fpScaled, fpSign_eq_negative, hexp]
  split <;> push_cast <;> ring

/-- The sum of two normalized numbers in units of the lower of their exponents. -/
def scaledSum (a b : Word) : ℤ := fpScaled a (min (fpExp a) (fpExp b)) + fpScaled b (min (fpExp a) (fpExp b))

theorem fpAddNorm_eq (a b : Word) : fpAddNorm a b =
    if scaledSum a b = 0 then fpZero false
    else fpTruncate (decide (scaledSum a b < 0)) (scaledSum a b).natAbs (min (fpExp a) (fpExp b)) := rfl

theorem real_add_real {a b : Word} (ha : isNorm a) (hb : isNorm b) :
    real a + real b = (scaledSum a b : ℚ) * 2 ^ min (fpExp a) (fpExp b) := by
  rw [scaledSum, Int.cast_add, add_mul, fpScaled_mul ha (min_le_left _ _), fpScaled_mul hb (min_le_right _ _)]

theorem scaledSum_eq_zero_iff {a b : Word} (ha : isNorm a) (hb : isNorm b) :
    scaledSum a b = 0 ↔ real a + real b = 0 := by
  have hunit : (2 : ℚ) ^ min (fpExp a) (fpExp b) ≠ 0 := by positivity
  rw [real_add_real ha hb, mul_eq_zero, or_iff_left hunit, Int.cast_eq_zero]

theorem scaledSum_neg_iff {a b : Word} (ha : isNorm a) (hb : isNorm b) :
    scaledSum a b < 0 ↔ real a + real b < 0 := by
  have hunit : (0 : ℚ) < 2 ^ min (fpExp a) (fpExp b) := by positivity
  rw [← not_le, ← not_le, real_add_real ha hb, mul_nonneg_iff_of_pos_right hunit, Int.cast_nonneg_iff]

theorem fpAddNorm_of_cancel {a b : Word} (ha : isNorm a) (hb : isNorm b) (h : real a + real b = 0) :
    fpAddNorm a b = 0x00000000#32 :=
  if_pos ((scaledSum_eq_zero_iff ha hb).mpr h)

theorem truncated_fpAddNorm {a b : Word} (ha : isNorm a) (hb : isNorm b) (h : real a + real b ≠ 0) :
    Truncated (real a + real b) (decide (real a + real b < 0)) (fpAddNorm a b) := by
  have hunit : (0 : ℚ) < 2 ^ min (fpExp a) (fpExp b) := by positivity
  rw [fpAddNorm_eq, if_neg (mt (scaledSum_eq_zero_iff ha hb).mp h), decide_eq_decide.mpr (scaledSum_neg_iff ha hb)]
  refine truncated_fpTruncate_of_eq _ ?_
  rw [real_add_real ha hb, abs_mul, abs_of_pos hunit, Nat.cast_natAbs, Int.cast_abs]

/-- FADD gives the sum of its operands (rule R429). -/
theorem isSum_fpAdd (a b : Word) : IsSum (fpAdd a b) a b := by
  refine nansFirst_of_fpNaNFirst rfl fun hr => ?_
  refine ⟨fun ha hb => ?infOpposite, fun ha hb => ?infEqual, fun ha hb => ?infLeft, fun ha hb => ?infRight,
    fun ha hb => ?zeros, fun ha hb => ?zeroLeft, fun ha hb => ?zeroRight, fun ha hb h => ?cancel,
    fun ha hb h => ⟨_, ?norm, truncated_fpAddNorm ha hb h⟩⟩
  case infOpposite =>
    rw [eq_infOf_of_isInf ha, eq_infOf_of_isInf hb]
    cases negative a <;> cases negative b <;> decide
  case infEqual =>
    rw [eq_infOf_of_isInf ha, eq_infOf_of_isInf hb]
    cases negative a <;> cases negative b <;> decide
  case infLeft =>
    rw [hr, eq_infOf_of_isInf ha, fpClass_infOf]
    rcases fpClass_of_isFinite hb with hb | hb | hb <;> rw [hb] <;> cases negative a <;> rfl
  case infRight =>
    rw [hr, eq_infOf_of_isInf hb, fpClass_infOf]
    rcases fpClass_of_isFinite ha with ha | ha | ha <;> rw [ha] <;> cases negative b <;> rfl
  case zeros =>
    rw [hr, fpClass_of_isZero ha, fpClass_of_isZero hb]
    cases negative a <;> cases negative b <;> rfl
  case zeroLeft =>
    rw [hr, fpClass_of_isZero ha, fpClass_of_isNorm hb]
    cases negative a <;> rfl
  case zeroRight =>
    rw [hr, fpClass_of_isNorm ha, fpClass_of_isZero hb]
    cases negative b <;> rfl
  case cancel => rw [hr, fpClass_of_isNorm ha, fpClass_of_isNorm hb, ← fpAddNorm_of_cancel ha hb h]
  case norm => rw [hr, fpClass_of_isNorm ha, fpClass_of_isNorm hb]

/-! ## Differences -/

/-- The class of the opposite number. -/
def FpClass.opposite : FpClass → FpClass
  | .pzero => .nzero
  | .nzero => .pzero
  | .pinf => .ninf
  | .ninf => .pinf
  | .norm => .norm
  | .qnan => .qnan
  | .snan => .snan

theorem fpAbsBits_fpFlip (x : Word) : fpAbsBits (fpFlip x) = fpAbsBits x := by
  refine BitVec.eq_of_toNat_eq ?_
  rw [fpAbsBits, fpFlip, BitVec.toNat_and, BitVec.toNat_xor, Nat.and_xor_distrib_right]
  exact Nat.xor_zero _

theorem fpSign_fpFlip (x : Word) : fpSign (fpFlip x) = !fpSign x := by
  rw [fpSign, fpFlip, BitVec.msb_xor]
  exact Bool.xor_true _

theorem getLsbD_fpFlip (x : Word) : (fpFlip x).getLsbD 22 = x.getLsbD 22 := by
  rw [fpFlip, BitVec.getLsbD_xor]
  exact Bool.xor_false _

theorem fpClass_fpFlip (x : Word) : fpClass (fpFlip x) = (fpClass x).opposite := by
  simp only [fpClass, fpAbsBits_fpFlip, fpSign_fpFlip, getLsbD_fpFlip, apply_ite FpClass.opposite]
  cases fpSign x <;> rfl

/-- FSUB is FADD with the sign of FRm changed (rule R449). -/
theorem fpSub_eq_fpAdd_fpFlip (m n : Word) : fpSub m n = fpAdd n (fpFlip m) := by
  rw [fpSub, fpAdd, fpClass_fpFlip]
  cases fpClass m <;> cases fpClass n <;> rfl

/-- Settles O46: FADD is the sum of its operands, and FSUB the sum with the sign of FRm changed. -/
theorem fpSumsAndDifferences : Obligations.FpSumsAndDifferences := by
  intro m n
  refine ⟨isSum_fpAdd m n, ?_⟩
  rw [fpSub_eq_fpAdd_fpFlip]
  exact isSum_fpAdd n (fpFlip m)

/-! ## Products -/

theorem truncated_fpMulNorm {a b : Word} (ha : isNorm a) (hb : isNorm b) :
    Truncated (real a * real b) (negative a ^^ negative b) (fpMulNorm a b) := by
  rw [fpMulNorm, fpSign_eq_negative, fpSign_eq_negative]
  refine truncated_fpTruncate_of_eq _ ?_
  rw [abs_mul, abs_real_of_isNorm ha, abs_real_of_isNorm hb, zpow_add₀ two_ne_zero, Nat.cast_mul, mul_mul_mul_comm]

/-- FMUL gives the product of its operands (rule R446). -/
theorem isProduct_fpMul (a b : Word) : IsProduct (fpMul a b) a b := by
  refine nansFirst_of_fpNaNFirst rfl fun hr => ?_
  rw [fpSign_eq_negative, fpSign_eq_negative] at hr
  refine ⟨fun h => ?infZero, fun ha hb => ?infLeft, fun ha hb => ?infRight, fun ha hb => ?zeroLeft,
    fun ha hb => ?zeroRight, fun ha hb => ⟨_, ?norm, truncated_fpMulNorm ha hb⟩⟩
  case infZero =>
    rcases h with ⟨ha, hb⟩ | ⟨ha, hb⟩
    · rw [hr, fpClass_of_isInf ha, fpClass_of_isZero hb]
      cases negative a <;> cases negative b <;> rfl
    · rw [hr, fpClass_of_isZero ha, fpClass_of_isInf hb]
      cases negative a <;> cases negative b <;> rfl
  case infLeft =>
    rw [hr, fpClass_of_isInf ha]
    rcases hb with hb | hb
    · rw [fpClass_of_isInf hb]
      cases negative a <;> cases negative b <;> rfl
    · rw [fpClass_of_isNorm hb]
      cases negative a <;> rfl
  case infRight =>
    rw [hr, fpClass_of_isNorm ha, fpClass_of_isInf hb]
    cases negative b <;> rfl
  case zeroLeft =>
    rw [hr, fpClass_of_isZero ha]
    rcases fpClass_of_isFinite hb with hb | hb | hb <;> rw [hb] <;> cases negative a <;> rfl
  case zeroRight =>
    rw [hr, fpClass_of_isNorm ha, fpClass_of_isZero hb]
    cases negative b <;> rfl
  case norm => rw [hr, fpClass_of_isNorm ha, fpClass_of_isNorm hb]

/-- Settles O47: FMUL is the product of its operands. -/
theorem fpProducts : Obligations.FpProducts :=
  isProduct_fpMul

/-! ## Quotients -/

/-- 26 further bits of quotient leave the 24 significant ones, and what is dropped below them is less than a unit. -/
theorem truncated_fpDivNorm {a b : Word} (ha : isNorm a) (hb : isNorm b) :
    Truncated (real a / real b) (negative a ^^ negative b) (fpDivNorm a b) := by
  have hb0 : 0 < fpMant b := (le_fpMant b).trans_lt' (by norm_num)
  have hunit : (0 : ℚ) < 2 ^ (fpExp a - fpExp b - 26) := by positivity
  have hquot : |real a / real b| = ((fpMant a * 2 ^ 26 : ℕ) : ℚ) / fpMant b * 2 ^ (fpExp a - fpExp b - 26) := by
    rw [abs_div, abs_real_of_isNorm ha, abs_real_of_isNorm hb, zpow_sub₀ two_ne_zero, zpow_sub₀ two_ne_zero]
    push_cast
    field_simp
  rw [fpDivNorm, fpSign_eq_negative, fpSign_eq_negative]
  refine truncated_fpTruncate _ ?below ?above (.inl ?bits)
  case below =>
    rw [hquot]
    exact mul_le_mul_of_nonneg_right Nat.cast_div_le hunit.le
  case above =>
    rw [hquot]
    refine mul_lt_mul_of_pos_right ?_ hunit
    rw [div_lt_iff₀ (by exact_mod_cast hb0)]
    rw [mul_comm (_ + 1)]
    exact_mod_cast Nat.lt_mul_div_succ _ hb0
  case bits =>
    rw [Nat.le_div_iff_mul_le hb0]
    calc 2 ^ 23 * fpMant b ≤ 2 ^ 23 * 2 ^ 24 := Nat.mul_le_mul_left _ (fpMant_lt b).le
      _ ≤ fpMant a * 2 ^ 26 := by have := le_fpMant a; omega

theorem fpNaNFirst_comm (a b : FpClass) (r : FpResult) : fpNaNFirst a b r = fpNaNFirst b a r := by
  simp only [fpNaNFirst, or_comm]

/-- FDIV gives the quotient of FRn by FRm (rule R433). -/
theorem isQuotient_fpDiv (m n : Word) : IsQuotient (fpDiv m n) n m := by
  refine nansFirst_of_fpNaNFirst (fpNaNFirst_comm (fpClass m) (fpClass n) _) fun hr => ?_
  rw [fpSign_eq_negative, fpSign_eq_negative, Bool.xor_comm] at hr
  refine ⟨fun h => ?invalid, fun hn hm => ?infLeft, fun hn hm => ?infRight, fun hn hm => ?zeroLeft,
    fun hn hm => ?zeroRight, fun hn hm => ⟨_, ?norm, truncated_fpDivNorm hn hm⟩⟩
  case invalid =>
    rcases h with ⟨hn, hm⟩ | ⟨hn, hm⟩
    · rw [hr, fpClass_of_isInf hn, fpClass_of_isInf hm]
      cases negative n <;> cases negative m <;> rfl
    · rw [hr, fpClass_of_isZero hn, fpClass_of_isZero hm]
      cases negative n <;> cases negative m <;> rfl
  case infLeft =>
    rw [hr, fpClass_of_isInf hn]
    rcases fpClass_of_isFinite hm with hm | hm | hm <;> rw [hm] <;> cases negative n <;> rfl
  case infRight =>
    rw [hr, fpClass_of_isInf hm]
    rcases fpClass_of_isFinite hn with hn | hn | hn <;> rw [hn] <;> cases negative m <;> rfl
  case zeroLeft =>
    rw [hr, fpClass_of_isZero hn, fpClass_of_isNorm hm]
    cases negative n <;> rfl
  case zeroRight =>
    rw [hr, fpClass_of_isNorm hn, fpClass_of_isZero hm]
    cases negative m <;> rfl
  case norm => rw [hr, fpClass_of_isNorm hn, fpClass_of_isNorm hm]

/-- Settles O48: FDIV is the quotient of FRn by FRm. -/
theorem fpQuotients : Obligations.FpQuotients :=
  isQuotient_fpDiv

end Sys2Proof.Machine
end

section
/-! SUPPORT. The order of the extended reals on patterns, and the conversions between integers and single precision. -/

namespace Sys2Proof.Machine

open Sys2Proof.Config Sys2Proof.Says

/-! ## The value of a pattern from its rank -/

/-- The absolute value of a finite number from its pattern without the sign bit. -/
def fpMagnitude (a : Nat) : ℚ :=
  if a < 0x800000 then 0 else ((0x800000 + a % 0x800000 : ℕ) : ℚ) * 2 ^ (((a / 0x800000 : ℕ) : ℤ) - 150)

theorem fpMagnitude_of_lt {a : Nat} (h : a < 0x800000) : fpMagnitude a = 0 :=
  if_pos h

theorem fpMagnitude_of_ge {a : Nat} (h : 0x800000 ≤ a) :
    fpMagnitude a = ((0x800000 + a % 0x800000 : ℕ) : ℚ) * 2 ^ (((a / 0x800000 : ℕ) : ℤ) - 150) :=
  if_neg h.not_gt

theorem fpMagnitude_pos {a : Nat} (h : 0x800000 ≤ a) : 0 < fpMagnitude a := by
  rw [fpMagnitude_of_ge h]
  positivity

/-- The patterns without their sign bits stand in the order of the numbers: of two exponents the higher one decides, and
under one exponent the fraction. -/
theorem fpMagnitude_lt {a b : Nat} (hab : a < b) (hb : 0x800000 ≤ b) : fpMagnitude a < fpMagnitude b := by
  by_cases ha : 0x800000 ≤ a
  case neg =>
    rw [fpMagnitude_of_lt (not_le.mp ha)]
    exact fpMagnitude_pos hb
  case pos =>
    rw [fpMagnitude_of_ge ha, fpMagnitude_of_ge hb]
    have hexp : a / 0x800000 ≤ b / 0x800000 := Nat.div_le_div_right hab.le
    rcases hexp.eq_or_lt with hexp | hexp
    · rw [hexp]
      exact mul_lt_mul_of_pos_right (by exact_mod_cast (by omega)) (by positivity)
    · calc ((0x800000 + a % 0x800000 : ℕ) : ℚ) * 2 ^ (((a / 0x800000 : ℕ) : ℤ) - 150)
          < ((2 * 0x800000 : ℕ) : ℚ) * 2 ^ (((a / 0x800000 : ℕ) : ℤ) - 150) :=
            mul_lt_mul_of_pos_right (by exact_mod_cast (by omega)) (by positivity)
        _ = ((0x800000 : ℕ) : ℚ) * 2 ^ (((a / 0x800000 : ℕ) : ℤ) - 150 + 1) := by
            rw [zpow_add_one₀ two_ne_zero]; push_cast; ring
        _ ≤ ((0x800000 : ℕ) : ℚ) * 2 ^ (((b / 0x800000 : ℕ) : ℤ) - 150) :=
            mul_le_mul_of_nonneg_left (zpow_le_zpow_right₀ one_le_two (by omega)) (by positivity)
        _ ≤ ((0x800000 + b % 0x800000 : ℕ) : ℚ) * 2 ^ (((b / 0x800000 : ℕ) : ℤ) - 150) :=
            mul_le_mul_of_nonneg_right (by exact_mod_cast Nat.le_add_right _ _) (by positivity)

theorem real_of_isFinite {x : Word} (h : isFinite x) :
    real x = (if negative x then -1 else 1) * fpMagnitude (x.toNat % 2 ^ 31) := by
  rcases h with h | h
  · rw [real_of_isZero h, fpMagnitude_of_lt (by unfold isZero at h; omega), mul_zero]
  · have hmant : fpMant x = 0x800000 + x.toNat % 2 ^ 31 % 0x800000 := by unfold fpMant; omega
    have hexp : fpExp x = ((x.toNat % 2 ^ 31 / 0x800000 : ℕ) : ℤ) - 150 := by unfold fpExp; omega
    rw [real_of_isNorm h, fpMagnitude_of_ge (by unfold isNorm at h; omega), hmant, hexp]

theorem fpRank_eq (x : Word) : fpRank x =
    if x.toNat % 2 ^ 31 < 0x800000 then 0
    else if negative x then -((x.toNat % 2 ^ 31 : ℕ) : ℤ) else ((x.toNat % 2 ^ 31 : ℕ) : ℤ) := by
  delta fpRank
  rw [toNat_fpAbsBits, fpSign_eq_negative]
  generalize x.toNat % 2 ^ 31 = a
  have hcast : (a : ℤ) < 0x800000 ↔ a < 0x800000 := by omega
  simp only [hcast]

/-- The places that a pattern can take: those of the denormalized numbers are one with that of the zeros. -/
def IsRank (r : ℤ) : Prop := r = 0 ∨ 0x800000 ≤ r.natAbs

theorem isRank_fpRank (x : Word) : IsRank (fpRank x) := by
  rw [IsRank, fpRank_eq]
  split_ifs <;> omega

/-- The number at a place. -/
def rankReal (r : ℤ) : ℚ := r.sign * fpMagnitude r.natAbs

theorem real_eq_rankReal {x : Word} (h : isFinite x) : real x = rankReal (fpRank x) := by
  rw [real_of_isFinite h, fpRank_eq]
  generalize x.toNat % 2 ^ 31 = a
  by_cases hzero : a < 0x800000
  · simp [rankReal, fpMagnitude_of_lt hzero, hzero]
  · have hsign : (a : ℤ).sign = 1 := Int.sign_eq_one_of_pos (by omega)
    cases negative x <;> simp [rankReal, hzero, hsign]

theorem rankReal_zero : rankReal 0 = 0 := by
  simp [rankReal]

theorem rankReal_neg (r : ℤ) : rankReal (-r) = -rankReal r := by
  simp [rankReal]

theorem rankReal_of_nonneg {r : ℤ} (h : 0 ≤ r) : rankReal r = fpMagnitude r.natAbs := by
  rcases h.eq_or_lt with rfl | hpos
  · rw [rankReal_zero, Int.natAbs_zero, fpMagnitude_of_lt (by norm_num)]
  · rw [rankReal, Int.sign_eq_one_of_pos hpos, Int.cast_one, one_mul]

theorem rankReal_lt_of_nonneg {r t : ℤ} (hr : 0 ≤ r) (ht : IsRank t) (h : r < t) : rankReal r < rankReal t := by
  rw [rankReal_of_nonneg hr, rankReal_of_nonneg (hr.trans h.le)]
  exact fpMagnitude_lt (by omega) (ht.resolve_left (by omega))

theorem strictMonoOn_rankReal : StrictMonoOn rankReal {r | IsRank r} := by
  intro r hr t ht hlt
  have hr' : IsRank (-r) := by unfold IsRank at *; simpa using hr
  rcases le_or_gt 0 r with hr0 | hr0
  · exact rankReal_lt_of_nonneg hr0 ht hlt
  · rcases le_or_gt t 0 with ht0 | ht0
    · rw [← neg_lt_neg_iff, ← rankReal_neg, ← rankReal_neg]
      exact rankReal_lt_of_nonneg (by omega) hr' (by omega)
    · have hneg : 0 < -rankReal r := by
        rw [← rankReal_neg, ← rankReal_zero]
        exact rankReal_lt_of_nonneg le_rfl hr' (by omega)
      have hpos : 0 < rankReal t := by
        rw [← rankReal_zero]
        exact rankReal_lt_of_nonneg le_rfl ht ht0
      linarith

theorem real_lt_real_iff {x y : Word} (hx : isFinite x) (hy : isFinite y) : real x < real y ↔ fpRank x < fpRank y := by
  rw [real_eq_rankReal hx, real_eq_rankReal hy]
  exact strictMonoOn_rankReal.lt_iff_lt (isRank_fpRank x) (isRank_fpRank y)

theorem real_eq_real_iff {x y : Word} (hx : isFinite x) (hy : isFinite y) : real x = real y ↔ fpRank x = fpRank y := by
  rw [real_eq_rankReal hx, real_eq_rankReal hy]
  exact strictMonoOn_rankReal.injOn.eq_iff (isRank_fpRank x) (isRank_fpRank y)

/-! ## The order of the extended reals -/

theorem not_isInf_of_isFinite {x : Word} (h : isFinite x) : ¬ isInf x := by
  unfold isFinite isZero isNorm at h
  unfold isInf
  omega

theorem not_isFinite_of_isInf {x : Word} (h : isInf x) : ¬ isFinite x :=
  fun hx => not_isInf_of_isFinite hx h

/-- The infinities stand beyond every finite number. -/
theorem abs_fpRank_lt {x : Word} (h : isFinite x) : |fpRank x| < 0x7F800000 := by
  unfold isFinite isZero isNorm at h
  rw [abs_lt, fpRank_eq]
  split_ifs <;> omega

theorem fpRank_of_isInf {x : Word} (h : isInf x) : fpRank x = if negative x then -0x7F800000 else 0x7F800000 := by
  unfold isInf at h
  rw [fpRank_eq, h]
  rfl

theorem fpSame_iff {n m : Word} (hn : isFinite n ∨ isInf n) (hm : isFinite m ∨ isInf m) :
    fpSame n m ↔ fpRank n = fpRank m := by
  rcases hn with hn | hn <;> rcases hm with hm | hm
  · simp [fpSame, hn, hm, not_isInf_of_isFinite, real_eq_real_iff]
  · have hrank := abs_lt.mp (abs_fpRank_lt hn)
    simp only [fpSame, hm, not_isInf_of_isFinite hn, not_isFinite_of_isInf hm, fpRank_of_isInf hm]
    cases negative m <;> simp <;> omega
  · have hrank := abs_lt.mp (abs_fpRank_lt hm)
    simp only [fpSame, hn, not_isInf_of_isFinite hm, not_isFinite_of_isInf hn, fpRank_of_isInf hn]
    cases negative n <;> simp <;> omega
  · simp only [fpSame, hn, hm, not_isFinite_of_isInf hn, fpRank_of_isInf hn, fpRank_of_isInf hm]
    cases negative n <;> cases negative m <;> simp

theorem fpGreater_iff {n m : Word} (hn : isFinite n ∨ isInf n) (hm : isFinite m ∨ isInf m) :
    fpGreater n m ↔ fpRank m < fpRank n := by
  rcases hn with hn | hn <;> rcases hm with hm | hm
  · simp [fpGreater, hn, hm, not_isInf_of_isFinite, real_lt_real_iff]
  · have hrank := abs_lt.mp (abs_fpRank_lt hn)
    simp only [fpGreater, hm, not_isInf_of_isFinite hn, not_isFinite_of_isInf hm, fpRank_of_isInf hm]
    cases negative m <;> simp <;> omega
  · have hrank := abs_lt.mp (abs_fpRank_lt hm)
    simp only [fpGreater, hn, not_isInf_of_isFinite hm, not_isFinite_of_isInf hn, fpRank_of_isInf hn]
    cases negative n <;> simp <;> omega
  · simp only [fpGreater, hn, hm, not_isFinite_of_isInf hn, fpRank_of_isInf hn, fpRank_of_isInf hm]
    cases negative n <;> cases negative m <;> simp

/-! ## Conversions -/

/-- FLOAT truncates the signed integer, which it knows exactly (rule R437). -/
theorem truncated_fpOfInt (x : Word) : Truncated (signed 32 x.toNat : ℚ) (negative x) (fpOfInt x) := by
  have hneg : decide (x.toInt < 0) = negative x := by
    rw [← BitVec.msb_eq_toInt]
    exact BitVec.msb_eq_decide x
  rw [fpOfInt, hneg, ← toInt_eq_signed]
  refine truncated_fpTruncate_of_eq _ ?_
  rw [zpow_zero, mul_one, Nat.cast_natAbs, Int.cast_abs]

theorem dropFraction_of_nonneg {y : ℚ} (h : 0 ≤ y) : dropFraction y = ⌊y⌋ :=
  if_pos h

theorem dropFraction_neg {y : ℚ} (h : 0 ≤ y) : dropFraction (-y) = -⌊y⌋ := by
  rcases h.eq_or_lt with rfl | hpos
  · simp [dropFraction]
  · rw [dropFraction, if_neg (by linarith), Int.ceil_neg]

/-- The integer part of a significand that is scaled. -/
theorem floor_mul_two_zpow (m : Nat) (e : ℤ) :
    ⌊(m : ℚ) * 2 ^ e⌋ = ((if 0 ≤ e then m * 2 ^ e.toNat else m / 2 ^ (-e).toNat : ℕ) : ℤ) := by
  split
  next he =>
    have hint : (m : ℚ) * 2 ^ e = ((m * 2 ^ e.toNat : ℕ) : ℤ) := by
      push_cast
      rw [← zpow_natCast, Int.toNat_of_nonneg he]
    rw [hint, Int.floor_intCast]
  next he =>
    have hfrac : (m : ℚ) * 2 ^ e = ((m : ℕ) : ℚ) / ((2 ^ (-e).toNat : ℕ) : ℚ) := by
      push_cast
      rw [← zpow_natCast, Int.toNat_of_nonneg (by omega), zpow_neg, div_inv_eq_mul]
    rw [hfrac, Rat.floor_natCast_div_natCast]
    rfl

/-- FTRC drops the fraction of a number (rule R450). -/
theorem fpIntPart_eq {x : Word} (h : isFinite x) : fpIntPart x = dropFraction (real x) := by
  rcases h with h | h
  · have hclass : fpClass x ≠ .norm := by
      rw [fpClass_of_isZero h]
      split <;> exact FpClass.noConfusion
    simp [fpIntPart, hclass, real_of_isZero h, dropFraction]
  · have hclass := fpClass_of_isNorm h
    have hfloor := floor_mul_two_zpow (fpMant x) (fpExp x)
    rw [real_of_isNorm h, fpIntPart, fpSign_eq_negative, hclass]
    cases negative x
    · simp [dropFraction_of_nonneg (scaled_pos x).le, hfloor]
    · simp [dropFraction_neg (scaled_pos x).le, hfloor]

theorem fpRank_lt_iff (x : Word) :
    fpRank x < -0x4F000000 ↔ negative x = true ∧ 0x4F000000 < x.toNat % 2 ^ 31 := by
  rw [fpRank_eq]
  cases negative x <;> simp <;> omega

theorem le_fpRank_iff (x : Word) :
    0x4F000000 ≤ fpRank x ↔ negative x = false ∧ 0x4F000000 ≤ x.toNat % 2 ^ 31 := by
  rw [fpRank_eq]
  cases negative x <;> simp <;> omega

/-- The ranges of an integer conversion by rank: 2^31 and -2^31 are patterns of the single-precision format (rule R450). -/
theorem fpTrunc_eq {x : Word} (h : isFinite x ∨ isInf x) : fpTrunc x =
    if fpRank x < -0x4F000000 then (0x80000000#32, true)
    else if 0x4F000000 ≤ fpRank x then (0x7FFFFFFF#32, true)
    else (BitVec.ofInt 32 (fpIntPart x), false) := by
  have hbound : x.toNat % 2 ^ 31 ≤ 0x7F800000 := by
    unfold isFinite isZero isNorm isInf at h
    omega
  have hpos : x.toNat % 2 ^ 31 ≤ 0x4EFFFFFF ↔ ¬ 0x4F000000 ≤ x.toNat % 2 ^ 31 := by omega
  have hneg : x.toNat % 2 ^ 31 ≤ 0x4F000000 ↔ ¬ 0x4F000000 < x.toNat % 2 ^ 31 := not_lt.symm
  rw [fpTrunc, toNat_fpAbsBits, fpSign_eq_negative, if_neg hbound.not_gt]
  simp only [fpRank_lt_iff, le_fpRank_iff, hpos, hneg, ite_not]
  cases negative x <;> simp

theorem real_lt_neg_two_pow_iff {x : Word} (h : isFinite x) : real x < -2 ^ 31 ↔ fpRank x < -0x4F000000 := by
  have hreal : real 0xCF000000#32 = -2 ^ 31 := by norm_num [real]
  have hrank : fpRank 0xCF000000#32 = -0x4F000000 := by decide
  rw [← hreal, ← hrank]
  exact real_lt_real_iff h (by unfold isFinite isZero isNorm; decide)

theorem real_lt_two_pow_iff {x : Word} (h : isFinite x) : real x < 2 ^ 31 ↔ fpRank x < 0x4F000000 := by
  have hreal : real 0x4F000000#32 = 2 ^ 31 := by norm_num [real]
  have hrank : fpRank 0x4F000000#32 = 0x4F000000 := by decide
  rw [← hreal, ← hrank]
  exact real_lt_real_iff h (by unfold isFinite isZero isNorm; decide)

theorem fpTrunc_of_isNaN {x : Word} (h : isSNaN x ∨ isQNaN x) : fpTrunc x = (0x80000000#32, true) := by
  unfold isSNaN isQNaN at h
  exact if_pos (by rw [toNat_fpAbsBits]; omega)

theorem isTruncation_fpTrunc (x : Word) : IsTruncation (fpTrunc x) x := by
  refine ⟨fpTrunc_of_isNaN, fun h => ?inf, fun h hlt => ?below, fun h hge => ?above, fun h hge hlt => ?within⟩
  case inf =>
    rw [fpTrunc_eq (.inr h), fpRank_of_isInf h]
    cases negative x <;> rfl
  case below => rw [fpTrunc_eq (.inl h), if_pos ((real_lt_neg_two_pow_iff h).mp hlt)]
  case above =>
    have hrank : 0x4F000000 ≤ fpRank x := not_lt.mp (mt (real_lt_two_pow_iff h).mpr hge.not_gt)
    rw [fpTrunc_eq (.inl h), if_neg (by omega), if_pos hrank]
  case within =>
    have hlow : ¬ fpRank x < -0x4F000000 := mt (real_lt_neg_two_pow_iff h).mpr hge.not_gt
    have hhigh : ¬ 0x4F000000 ≤ fpRank x := ((real_lt_two_pow_iff h).mp hlt).not_ge
    rw [fpTrunc_eq (.inl h), if_neg hlow, if_neg hhigh, fpIntPart_eq h]

/-- Settles O49: FLOAT truncates an exact integer, and the ranges of FTRC are ranges of rank. -/
theorem fpConversions : Obligations.FpConversions :=
  fun x => ⟨truncated_fpOfInt x, isTruncation_fpTrunc x⟩

end Sys2Proof.Machine
end

section
/-! SUPPORT. The FPU instructions on the state: destination, FPSCR, the FPU exception, and what they leave unchanged. -/

namespace Sys2Proof.Machine

open Sys2Proof.Config Sys2Proof.Says

/-! ## Results and FPSCR -/

/-- The causes and flags of a result, and the value it writes where its exception is not enabled (rules R423, R427). -/
theorem Fpscr.settle_eq (r : Fpscr) (x : FpResult) :
    r.settle x = (settled r x, if trapped r x then none else some (untrapped x)) := by
  cases x <;> rfl

theorem State.withFpu_of_fpuReady {s : State} (h : FpuReady s) (r : Result) : s.withFpu r = r :=
  s.withFpu_of_ready r h.1 h.2

theorem raisesFpu_of_raiseFpu {i : Instr} {s : State} {r : Fpscr}
    (hi : exec i s = State.raiseFpu { s with fpscr := r }) : RaisesFpu i s r :=
  ⟨_, chooseSkid_le s.platform.fpuExcSkid s.free, hi⟩

theorem State.fpFinish_some (s : State) (n : FReg) (r : Fpscr) (w : Word) :
    s.fpFinish n (r, some w) = .next { wroteFr s n w with fpscr := r } := rfl

theorem State.fpFinish_none (s : State) (n : FReg) (r : Fpscr) :
    s.fpFinish n (r, none) = State.raiseFpu { s with fpscr := r } := rfl

/-! ## O50 -/

/-- An operation of one result. -/
theorem computes_of_fpArith {i : Instr} {n : FReg} {x : State → FpResult}
    (hi : ∀ s, exec i s = s.withFpu (s.fpArith n (x s))) : Computes i n x := by
  intro s hs
  have hexec : exec i s
      = s.fpFinish n (settled s.fpscr (x s), if trapped s.fpscr (x s) then none else some (untrapped (x s))) := by
    rw [hi, State.withFpu_of_fpuReady hs, State.fpArith, Fpscr.settle_eq]
  refine ⟨fun h => ?value, fun h => raisesFpu_of_raiseFpu ?raised⟩
  case value => rw [hexec, h, if_neg Bool.false_ne_true, State.fpFinish_some]
  case raised => rw [hexec, h, if_pos rfl, State.fpFinish_none]

theorem fpAbsBits_eq_ofNat (x : Word) : fpAbsBits x = BitVec.ofNat 32 (x.toNat % 2 ^ 31) := by
  rw [← toNat_fpAbsBits, BitVec.ofNat_toNat, BitVec.setWidth_eq]

theorem fpAbs_of_isInf {x : Word} (h : isInf x) : fpAbs x = .value (BitVec.ofNat 32 (x.toNat % 2 ^ 31)) := by
  rw [← fpAbsBits_eq_ofNat, eq_infOf_of_isInf h]
  cases negative x <;> rfl

theorem fpNeg_of_isInf {x : Word} (h : isInf x) : fpNeg x = .value (x ^^^ 0x80000000#32) := by
  rw [fpNeg, fpClass_of_isInf h]
  cases negative x <;> rfl

theorem fpAbs_of_isZero {x : Word} (h : isZero x) : fpAbs x = .value 0x00000000#32 := by
  rw [fpAbs, fpClass_of_isZero h]
  cases negative x <;> rfl

theorem fpNeg_of_isZero {x : Word} (h : isZero x) : fpNeg x = .value (zeroOf (!negative x)) := by
  rw [fpNeg, fpClass_of_isZero h]
  cases negative x <;> rfl

theorem fpAbs_of_isNorm {x : Word} (h : isNorm x) : fpAbs x = .value (BitVec.ofNat 32 (x.toNat % 2 ^ 31)) := by
  rw [fpAbs, fpClass_of_isNorm h, fpAbsBits_eq_ofNat]

theorem fpNeg_of_isNorm {x : Word} (h : isNorm x) : fpNeg x = .value (x ^^^ 0x80000000#32) := by
  rw [fpNeg, fpClass_of_isNorm h, fpFlip]

/-- Settles O50: each of the seven is `State.fpArith` of its operation, and FABS and FNEG go by class. -/
theorem fpArithmeticInstructions : Obligations.FpArithmeticInstructions := by
  intro m n
  refine ⟨?_, ?_, ?_, ?_, ?_, ?_, ?_, fun x => ⟨fun h => ?finite, fun h => ⟨fpAbs_of_isZero h, fpNeg_of_isZero h⟩,
    fun h => ?quiet, fun h => ?signaling⟩⟩
  iterate 7 exact computes_of_fpArith fun _ => rfl
  case finite =>
    rcases h with h | h
    · exact ⟨fpAbs_of_isNorm h, fpNeg_of_isNorm h⟩
    · exact ⟨fpAbs_of_isInf h, fpNeg_of_isInf h⟩
  case quiet =>
    rw [fpAbs, fpNeg, fpClass_of_isQNaN h]
    exact ⟨rfl, rfl⟩
  case signaling =>
    rw [fpAbs, fpNeg, fpClass_of_isSNaN h]
    exact ⟨rfl, rfl⟩

/-! ## O51 -/

/-- Settling a result leaves the enables as they are. -/
theorem trapped_settled (r : Fpscr) (x y : FpResult) : trapped (settled r x) y = trapped r y := by
  cases x <;> cases y <;> rfl

/-- FMAC settles the product, and the sum only where the product raises nothing (rule R438). -/
theorem Fpscr.settleMulAdd_of_trapped {r : Fpscr} {fr0 m : Word} (n : Word) (h : trapped r (fpMul fr0 m) = true) :
    r.settleMulAdd fr0 m n = (settled r (fpMul fr0 m), none) := by
  simp only [Fpscr.settleMulAdd, Fpscr.settle_eq, h, if_true]

theorem Fpscr.settleMulAdd_of_untrapped {r first : Fpscr} {fr0 m n : Word} {sum : FpResult}
    (h : trapped r (fpMul fr0 m) = false) (hfirst : first = settled r (fpMul fr0 m))
    (hsum : sum = fpAdd (untrapped (fpMul fr0 m)) n) :
    r.settleMulAdd fr0 m n = ({ settled first sum with cv := first.cv || (settled first sum).cv },
      if trapped r sum then none else some (untrapped sum)) := by
  rw [← trapped_settled r (fpMul fr0 m) sum, ← hfirst]
  subst hfirst hsum
  simp only [Fpscr.settleMulAdd, Fpscr.settle_eq, h, if_neg Bool.false_ne_true]

/-- Settles O51: FMAC finishes with what settling the product, and then the sum, answers. -/
theorem fpMultiplyAdd : Obligations.FpMultiplyAdd := by
  intro m n s hs product first sum second
  have hexec : exec (.fmac m n) s = s.fpFinish n (s.fpscr.settleMulAdd (s.fr 0) (s.fr m) (s.fr n)) :=
    State.withFpu_of_fpuReady hs _
  have hsum (hp : trapped s.fpscr product = false) : s.fpscr.settleMulAdd (s.fr 0) (s.fr m) (s.fr n)
      = (second, if trapped s.fpscr sum then none else some (untrapped sum)) :=
    Fpscr.settleMulAdd_of_untrapped hp rfl rfl
  refine ⟨fun hp => raisesFpu_of_raiseFpu ?product, fun hp ht => raisesFpu_of_raiseFpu ?sum, fun hp ht => ?value⟩
  case product => rw [hexec, Fpscr.settleMulAdd_of_trapped _ hp, State.fpFinish_none]
  case sum => rw [hexec, hsum hp, if_pos ht, State.fpFinish_none]
  case value => rw [hexec, hsum hp, ht, if_neg Bool.false_ne_true, State.fpFinish_some]

/-! ## O52 -/

theorem fpOrder_of_isSNaN {m n : Word} (hs : isSNaN m ∨ isSNaN n) : fpOrder m n = .invalid := by
  rw [← fpClass_eq_snan_iff, ← fpClass_eq_snan_iff] at hs
  rw [fpOrder, if_pos hs]

theorem fpOrder_of_isQNaN {m n : Word} (hs : ¬ (isSNaN m ∨ isSNaN n)) (hq : isQNaN m ∨ isQNaN n) :
    fpOrder m n = .uo := by
  rw [← fpClass_eq_snan_iff, ← fpClass_eq_snan_iff] at hs
  rw [← fpClass_eq_qnan_iff, ← fpClass_eq_qnan_iff] at hq
  rw [fpOrder, if_neg hs, if_pos hq]

theorem fpOrder_of_no_NaN {m n : Word} (hs : ¬ (isSNaN m ∨ isSNaN n)) (hq : ¬ (isQNaN m ∨ isQNaN n)) :
    fpOrder m n = if fpRank n = fpRank m then .eq else if fpRank n > fpRank m then .gt else .notgt := by
  rw [← fpClass_eq_snan_iff, ← fpClass_eq_snan_iff] at hs
  rw [← fpClass_eq_qnan_iff, ← fpClass_eq_qnan_iff] at hq
  rw [fpOrder, if_neg hs, if_neg hq]

/-- Operands that are no NaNs have a place in the order of the extended reals. -/
theorem isFinite_or_isInf_of_no_NaN {m n : Word} (hs : ¬ (isSNaN m ∨ isSNaN n)) (hq : ¬ (isQNaN m ∨ isQNaN n)) :
    (isFinite m ∨ isInf m) ∧ (isFinite n ∨ isInf n) := by
  have hm := isFinite_or_isInf_or_isNaN m
  have hn := isFinite_or_isInf_or_isNaN n
  tauto

/-- FCMP/EQ says whether the operands are equal as extended reals (rules R430, R432). -/
theorem fpCompareEq_of_no_NaN {m n : Word} (hs : ¬ (isSNaN m ∨ isSNaN n)) (hq : ¬ (isQNaN m ∨ isQNaN n)) {b : Bool}
    (hb : b = true ↔ fpSame n m) : fpCompareEq m n = some b := by
  obtain ⟨hm, hn⟩ := isFinite_or_isInf_of_no_NaN hs hq
  rw [fpSame_iff hn hm] at hb
  rw [fpCompareEq, fpOrder_of_no_NaN hs hq]
  rcases lt_trichotomy (fpRank m) (fpRank n) with hlt | heq | hgt
  · rw [if_neg hlt.ne', if_pos hlt, Bool.eq_false_iff.mpr (mt hb.mp hlt.ne')]
  · rw [if_pos heq.symm, hb.mpr heq.symm]
  · rw [if_neg hgt.ne, if_neg hgt.not_gt, Bool.eq_false_iff.mpr (mt hb.mp hgt.ne)]

/-- FCMP/GT says whether FRn is greater than FRm as extended reals (rules R431, R432). -/
theorem fpCompareGt_of_no_NaN {m n : Word} (hs : ¬ (isSNaN m ∨ isSNaN n)) (hq : ¬ (isQNaN m ∨ isQNaN n)) {b : Bool}
    (hb : b = true ↔ fpGreater n m) : fpCompareGt m n = some b := by
  obtain ⟨hm, hn⟩ := isFinite_or_isInf_of_no_NaN hs hq
  rw [fpGreater_iff hn hm] at hb
  rw [fpCompareGt, fpOrder_of_no_NaN hs hq]
  rcases lt_trichotomy (fpRank m) (fpRank n) with hlt | heq | hgt
  · rw [if_neg hlt.ne', if_pos hlt, hb.mpr hlt]
  · rw [if_pos heq.symm, Bool.eq_false_iff.mpr (mt hb.mp heq.not_lt)]
  · rw [if_neg hgt.ne, if_neg hgt.not_gt, Bool.eq_false_iff.mpr (mt hb.mp hgt.not_gt)]

theorem fpCompareGt_of_isNaN {m n : Word} (h : (isSNaN m ∨ isSNaN n) ∨ isQNaN m ∨ isQNaN n) :
    fpCompareGt m n = none := by
  by_cases hs : isSNaN m ∨ isSNaN n
  · rw [fpCompareGt, fpOrder_of_isSNaN hs]
  · rw [fpCompareGt, fpOrder_of_isQNaN hs (h.resolve_left hs)]

/-- A comparison without NaN operands writes the new T. -/
theorem exec_of_fpCompare_some {i : Instr} {s : State} {b : Bool} (hs : FpuReady s)
    (hi : exec i s = s.withFpu (s.fpCompare (some b))) :
    exec i s = .next { setsT s b with fpscr := settled s.fpscr (.value 0#32) } := by
  rw [hi, State.withFpu_of_fpuReady hs]
  rfl

/-- A comparison that is an invalid operation writes 0 to T, or raises the exception. -/
theorem exec_of_fpCompare_none {i : Instr} {s : State} (hs : FpuReady s)
    (hi : exec i s = s.withFpu (s.fpCompare none)) :
    if s.fpscr.ev = true then RaisesFpu i s (settled s.fpscr .invalid)
    else exec i s = .next { setsT s false with fpscr := settled s.fpscr .invalid } := by
  rw [State.withFpu_of_fpuReady hs, State.fpCompare] at hi
  split
  next hev => exact raisesFpu_of_raiseFpu (hi.trans (if_pos hev))
  next hev => exact hi.trans (if_neg hev)

/-- Settles O52: each of the two is `State.fpCompare` of a place in the order of the extended reals, after the NaNs. -/
theorem fpComparisons : Obligations.FpComparisons := by
  intro m n s hfpu signaling quiet
  have hexecEq {t : Option Bool} (h : fpCompareEq (s.fr m) (s.fr n) = t) :
      exec (.fcmpEq m n) s = s.withFpu (s.fpCompare t) := h ▸ rfl
  have hexecGt {t : Option Bool} (h : fpCompareGt (s.fr m) (s.fr n) = t) :
      exec (.fcmpGt m n) s = s.withFpu (s.fpCompare t) := h ▸ rfl
  refine ⟨fun hs => exec_of_fpCompare_none hfpu (hexecEq ?eqSignaling),
    fun hs hq => exec_of_fpCompare_some hfpu (hexecEq ?eqQuiet),
    fun hs hq b hb => exec_of_fpCompare_some hfpu (hexecEq (fpCompareEq_of_no_NaN hs hq hb)),
    fun h => exec_of_fpCompare_none hfpu (hexecGt (fpCompareGt_of_isNaN h)),
    fun hs hq b hb => exec_of_fpCompare_some hfpu (hexecGt (fpCompareGt_of_no_NaN hs hq hb))⟩
  case eqSignaling => rw [fpCompareEq, fpOrder_of_isSNaN hs]
  case eqQuiet => rw [fpCompareEq, fpOrder_of_isQNaN hs hq]

/-! ## O53 -/

/-- Settles O53: FTRC is `State.fpTruncate` of the conversion. -/
theorem fpTruncationInstruction : Obligations.FpTruncationInstruction := by
  intro m s hs
  have hexec : exec (.ftrc m) s = s.fpTruncate (fpTrunc (s.fr m)) := State.withFpu_of_fpuReady hs _
  rw [State.fpTruncate] at hexec
  refine ⟨fun hv => ?valid, fun hv he => ?untrapped, fun hv he => raisesFpu_of_raiseFpu ?raised⟩
  case valid =>
    rw [hv, if_neg Bool.false_ne_true] at hexec
    exact hexec
  case untrapped =>
    rw [hv, he, if_pos rfl, if_neg Bool.false_ne_true] at hexec
    exact hexec
  case raised =>
    rw [hv, he, if_pos rfl, if_pos rfl] at hexec
    exact hexec

/-! ## O54 -/

/-- An FPU instruction that completes in the state `u`, and is encoded by this code. -/
theorem runs_of_withFpu {code : Half} {i : Instr} {s u t : State} (hs : FpuReady s) (hcode : code = encodeWord i)
    (hi : exec i s = s.withFpu u.complete) (hu : moved u = t) : Runs code i s t :=
  ⟨hcode ▸ decodeWord_encodeWord i, by rw [hi, State.withFpu_of_fpuReady hs, ← hu]; rfl⟩

/-- Settles O54: each of the nine completes with one register written. -/
theorem fpCopiesAndFpuRegisters : Obligations.FpCopiesAndFpuRegisters := by
  intro m n s hs
  refine ⟨?fldi0, ?fldi1, ?flds, ?fmov, ?fsts, ?ldsFpscr, ?ldsFpul, ?stsFpscr, ?stsFpul⟩
  case fldi0 => exact runs_of_withFpu hs (nCode_eq_nibbles _ n _ (by decide)) rfl rfl
  case fldi1 => exact runs_of_withFpu hs (nCode_eq_nibbles _ n _ (by decide)) rfl rfl
  case flds => exact runs_of_withFpu hs (nCode_eq_nibbles _ m _ (by decide)) rfl rfl
  case fmov => exact runs_of_withFpu hs (nmCode_eq_nibbles _ n m _ (by decide)) rfl rfl
  case fsts => exact runs_of_withFpu hs (nCode_eq_nibbles _ n _ (by decide)) rfl rfl
  case ldsFpscr => exact runs_of_withFpu hs (nCode_eq_nibbles _ m _ (by decide)) rfl rfl
  case ldsFpul => exact runs_of_withFpu hs (nCode_eq_nibbles _ m _ (by decide)) rfl rfl
  case stsFpscr =>
    rw [← Fpscr.toWord_eq_fpscrWord]
    exact runs_of_withFpu hs (nCode_eq_nibbles _ n _ (by decide)) rfl rfl
  case stsFpul => exact runs_of_withFpu hs (nCode_eq_nibbles _ n _ (by decide)) rfl rfl

/-! ## O55 -/

/-- FMOV.S from memory: the longword goes to `FR[n]` as it is. -/
theorem loadsInto_of_withLoad {i : Instr} {a : State → Word} {n : FReg}
    (hi : ∀ s, exec i s = s.withFpu (s.withLoad .long (a s) fun s v => (s.setFr n v).complete)) :
    LoadsInto i .long a FpuReady fun s v => wroteFr s n v := by
  intro s hs ha
  rw [hi, State.withFpu_of_fpuReady hs, s.withLoad_of_accessible .long (a s) _ ha, Memory.readWidth_long_eq_loaded]
  rfl

/-- FMOV.S to memory. -/
theorem storesAt_of_fpu_storeAt {i : Instr} {a v : State → Word}
    (hi : ∀ s, exec i s = s.withFpu (s.storeAt .long (a s) (v s))) : StoresAt i .long a FpuReady v moved := by
  intro s hs ha
  refine ⟨(s.busTurn.poke .long (a s) (v s)).advance, ?_, rfl, s.busTurn.stored_poke .long (a s) (v s)⟩
  rw [hi, State.withFpu_of_fpuReady hs, State.storeAt, s.withStore_of_accessible .long (a s) (v s) _ ha]
  rfl

/-- An instruction completes after its store and after its address register has moved. -/
theorem complete_storedThen (n : Reg) (s : State) (a x : Word) : ∃ t,
    ((s.poke .long a x).setReg n a).complete = .next t ∧ StoredThen s t .long a x.toNat (wrote s n a) :=
  ⟨_, rfl, rfl, s.stored_poke .long a x⟩

/-- Settles O55: FMOV.S by address or by stepping address, and LDS.L and STS.L as `State.loadLongInc` and
`State.storeLongDec` of their registers. -/
theorem fpMemory : Obligations.FpMemory := by
  intro m n
  refine ⟨?fmovLoad, ?fmovPostInc, ?fmovLoadR0, ?fmovStore, ?fmovPreDec, ?fmovStoreR0, ?ldsLFpscr, ?ldsLFpul, ?stsLFpscr,
    ?stsLFpul⟩
  case fmovLoad => exact loadsInto_of_withLoad fun _ => rfl
  case fmovPostInc => exact loadsInto_of_loadLongInc (fun _ hs => State.withFpu_of_fpuReady hs _) fun _ _ => rfl
  case fmovLoadR0 => exact loadsInto_of_withLoad fun _ => rfl
  case fmovStore => exact storesAt_of_fpu_storeAt fun _ => rfl
  case fmovPreDec =>
    exact storesAt_of_storeLongDec (fun _ hs => State.withFpu_of_fpuReady hs _) (fun _ => rfl) (complete_storedThen n)
  case fmovStoreR0 => exact storesAt_of_fpu_storeAt fun _ => rfl
  case ldsLFpscr => exact loadsInto_of_loadLongInc (fun _ hs => State.withFpu_of_fpuReady hs _) fun _ _ => rfl
  case ldsLFpul => exact loadsInto_of_loadLongInc (fun _ hs => State.withFpu_of_fpuReady hs _) fun _ _ => rfl
  case stsLFpscr =>
    exact storesAt_of_storeLongDec (fun _ hs => State.withFpu_of_fpuReady hs _) (fun s => s.fpscr.toWord_eq_fpscrWord)
      (complete_storedThen n)
  case stsLFpul =>
    exact storesAt_of_storeLongDec (fun _ hs => State.withFpu_of_fpuReady hs _) (fun _ => rfl) (complete_storedThen n)

end Sys2Proof.Machine
end

section
/-! SUPPORT. What taking an exception comes to: the entry that succeeds, and the entry that ends in `DoubleFault` because R15
or VBR is misaligned. -/

namespace Sys2Proof.Machine

open Sys2Proof.Config Sys2Proof.Says

/-! ## O35 -/

/-- Where every access of an entry passes, the entry succeeds, and leaves what rule R530 says. -/
theorem State.tryEnter_of_frameReady (s : State) (v : BitVec 8) (spc : Word) (mask : Option (BitVec 4))
    (h : FrameReady s v) : ∃ t, s.tryEnter v spc mask = .entered t ∧ Entered s t v spc (s.sr.raiseMask mask) := by
  obtain ⟨h4, h8, hv⟩ := h
  have hentry := s.tryEnter_of_accessible v spc mask h4 h8 (s.vectorAddr_eq v ▸ hv)
  exact ⟨_, hentry, State.entered_of_tryEnter hentry⟩

theorem State.enter_masked_of_frameReady (s : State) (v : BitVec 8) (spc : Word) (mask : Option (BitVec 4))
    (h : FrameReady s v) : ∃ t, s.enter v spc mask = .next t ∧ Entered s t v spc (s.sr.raiseMask mask) := by
  obtain ⟨t, hentry, ht⟩ := s.tryEnter_of_frameReady v spc mask h
  exact ⟨t, by rw [State.enter, hentry], ht⟩

theorem State.enterAddressError_of_frameReady (s : State) (spc : Word)
    (h : FrameReady s s.platform.vec.addressError) :
    ∃ t, s.enterAddressError spc = .next t ∧ Entered s t s.platform.vec.addressError spc s.sr := by
  obtain ⟨t, hentry, ht⟩ := s.tryEnter_of_frameReady s.platform.vec.addressError spc none h
  exact ⟨t, by rw [State.enterAddressError, hentry], ht⟩

/-- Settles O35: both ways to take an exception are one attempt to enter it, which succeeds where the frame is ready. -/
theorem exceptionEntry : Obligations.ExceptionEntry := by
  intro s v spc mask
  exact ⟨s.enter_masked_of_frameReady v spc mask, s.enterAddressError_of_frameReady spc⟩

/-! ## A misaligned R15 or VBR -/

/-- The frame is as aligned as R15 is. -/
theorem toNat_sub_four_mod_four (a : Word) : (a - 4#32).toNat % 4 = a.toNat % 4 := by
  bv_omega

/-- The vector table is as aligned as VBR is (rule R512). -/
theorem State.vectorAddr_mod_four (s : State) (v : BitVec 8) : (s.vectorAddr v).toNat % 4 = s.vbr.toNat % 4 := by
  rw [s.vectorAddr_eq, BitVec.toNat_add, BitVec.toNat_ofNat]
  omega

@[simp] theorem State.vbr_pushedFrame (s : State) (spc : Word) : (s.pushedFrame spc).vbr = s.vbr := by
  simp [State.pushedFrame, State.pushedSr]

/-- `u` is `s` in everything but memory, what is about it, and the mode. -/
def SameButMemory (s u : State) : Prop :=
  { u with mode := s.mode, mem := s.mem, recent := s.recent, bus := s.bus } = s

theorem SameButMemory.refl (s : State) : SameButMemory s s := rfl

/-- Storing a frame changes memory and what is about it, and nothing else. -/
theorem SameButMemory.pushedFrame {s u : State} (h : SameButMemory s u) (spc : Word) :
    SameButMemory s (u.pushedFrame spc) := by
  simpa [SameButMemory, State.pushedFrame, State.pushedSr] using h

/-- What `DoubleFaulted` asks of the state in which the last entry stopped. -/
theorem doubleFaulted_of_sameButMemory {s u : State} {spc : Word} (h : SameButMemory s u)
    (hmem : s.bus = [] → FrameStacked s.mem u.mem (s.reg 15) s.sr spc) :
    DoubleFaulted s spc (.next { u with mode := .doubleFault }) :=
  ⟨_, rfl, rfl, h, hmem⟩

/-- With VBR misaligned, an entry stores its frame and stops at the read of the vector (rule R530 step 5). -/
theorem State.tryEnter_of_vbr_misaligned (s : State) (v : BitVec 8) (spc : Word) (mask : Option (BitVec 4))
    (h4 : Accessible s .write .long (s.reg 15 - 4#32)) (h8 : Accessible s .write .long (s.reg 15 - 8#32))
    (hvbr : s.vbr.toNat % 4 ≠ 0) : s.tryEnter v spc mask = .addressError (s.pushedFrame spc) := by
  have hsr : s.store .long (s.reg 15 - 4#32) s.sr.toWord = .ok s.pushedSr := s.store_of_accessible .long _ _ h4
  have hspc : s.pushedSr.store .long (s.reg 15 - 8#32) spc = .ok (s.pushedFrame spc) :=
    s.pushedSr.store_of_accessible .long _ _ (by simpa [Accessible] using h8)
  have hvector : (s.pushedFrame spc).load .long (s.vectorAddr v) = .addressError :=
    State.load_misaligned _ .long _ (by simpa [widthBytes, s.vectorAddr_mod_four] using hvbr)
  simp only [State.tryEnter, hsr, hspc, hvector]

/-- An address error then has no second attempt: the frame stands, and the machine is in `DoubleFault` (rule R534). -/
theorem State.enterAddressError_of_vbr_misaligned (s : State) (spc : Word)
    (h4 : Accessible s .write .long (s.reg 15 - 4#32)) (h8 : Accessible s .write .long (s.reg 15 - 8#32))
    (hvbr : s.vbr.toNat % 4 ≠ 0) : s.enterAddressError spc = .next { s.pushedFrame spc with mode := .doubleFault } := by
  rw [State.enterAddressError, s.tryEnter_of_vbr_misaligned _ spc none h4 h8 hvbr]

/-- Any other exception is attempted as an address error from where it stopped, which stores the same frame again (rule
R534, log entry 13). -/
theorem State.enter_of_vbr_misaligned (s : State) (v : BitVec 8) (spc : Word) (mask : Option (BitVec 4))
    (h4 : Accessible s .write .long (s.reg 15 - 4#32)) (h8 : Accessible s .write .long (s.reg 15 - 8#32))
    (hvbr : s.vbr.toNat % 4 ≠ 0) :
    s.enter v spc mask = .next { (s.pushedFrame spc).pushedFrame spc with mode := .doubleFault } := by
  rw [State.enter, s.tryEnter_of_vbr_misaligned v spc mask h4 h8 hvbr]
  exact (s.pushedFrame spc).enterAddressError_of_vbr_misaligned spc (by simpa [Accessible] using h4)
    (by simpa [Accessible] using h8) (by rwa [s.vbr_pushedFrame])

/-- Storing the frame a second time leaves memory as the first time did. -/
theorem State.frameStacked_pushedFrame_twice (s : State) (spc : Word) (hbus : s.bus = [])
    (h4 : (s.reg 15 - 4#32).toNat % 4 = 0) (h8 : (s.reg 15 - 8#32).toNat % 4 = 0) :
    FrameStacked s.mem ((s.pushedFrame spc).pushedFrame spc).mem (s.reg 15) s.sr spc := by
  have hfirst := s.sameOutsideFrame_pushedFrame spc hbus
  have hsecond := (s.pushedFrame spc).frameStacked_pushedFrame spc (s.bus_pushedFrame spc hbus) (by simpa using h4)
    (by simpa using h8)
  rw [s.reg_pushedFrame, s.sr_pushedFrame] at hsecond
  exact hfirst.frameStacked hsecond

theorem State.doubleFaulted_enterAddressError (s : State) (spc : Word)
    (h4 : Accessible s .write .long (s.reg 15 - 4#32)) (h8 : Accessible s .write .long (s.reg 15 - 8#32))
    (hvbr : s.vbr.toNat % 4 ≠ 0) : DoubleFaulted s spc (s.enterAddressError spc) := by
  rw [s.enterAddressError_of_vbr_misaligned spc h4 h8 hvbr]
  exact doubleFaulted_of_sameButMemory (.pushedFrame (.refl s) spc) fun hbus =>
    s.frameStacked_pushedFrame spc hbus h4.1 h8.1

theorem State.doubleFaulted_enter (s : State) (v : BitVec 8) (spc : Word) (mask : Option (BitVec 4))
    (h4 : Accessible s .write .long (s.reg 15 - 4#32)) (h8 : Accessible s .write .long (s.reg 15 - 8#32))
    (hvbr : s.vbr.toNat % 4 ≠ 0) : DoubleFaulted s spc (s.enter v spc mask) := by
  rw [s.enter_of_vbr_misaligned v spc mask h4 h8 hvbr]
  exact doubleFaulted_of_sameButMemory (.pushedFrame (.pushedFrame (.refl s) spc) spc) fun hbus =>
    s.frameStacked_pushedFrame_twice spc hbus h4.1 h8.1

/-! ## O36 -/

/-- Nothing executes in `DoubleFault` (rule R534). -/
theorem State.cpuStep_of_doubleFault (s : State) (h : s.mode = .doubleFault) : s.cpuStep = .next s := by
  simp [State.cpuStep, h]

/-- Settles O36: with R15 misaligned no entry stores anything; with VBR misaligned each attempt stores the frame and stops;
TRAPA is such an entry. -/
theorem doubleFault : Obligations.DoubleFault := by
  intro s v spc mask
  refine ⟨fun h15 => ?frame, fun h4 h8 hvbr => ?vector, fun hmode hreset => ?step⟩
  case frame =>
    have h4 : (s.reg 15 - 4#32).toNat % 4 ≠ 0 := by rwa [toNat_sub_four_mod_four]
    refine ⟨s.enter_misaligned v spc mask h4, s.enterAddressError_misaligned spc h4, fun hslot => ?_⟩
    rw [exec_trapa_of_no_slot v s hslot, s.enter_misaligned _ _ _ h4]
  case vector =>
    refine ⟨s.doubleFaulted_enter v spc mask h4 h8 hvbr, s.doubleFaulted_enterAddressError spc h4 h8 hvbr,
      fun hslot => ?_⟩
    rw [exec_trapa_of_no_slot v s hslot]
    exact s.doubleFaulted_enter v _ none h4 h8 hvbr
  case step => rw [step_of_noReset s hreset, State.cpuStep_of_doubleFault _ (by rw [mode_absorbed, hmode])]

end Sys2Proof.Machine
end

section
/-! SUPPORT. What waits to be accepted: FPU instructions while an FPU exception is pending, and the choice of a boundary
between that exception and the requests. -/

namespace Sys2Proof.Machine

open Sys2Proof.Config Sys2Proof.Says

/-! ## O38 -/

/-- Every FPU instruction asks first whether the FPU is stopped or an exception is pending (rules R523, R527). -/
theorem exec_eq_withFpu (i : Instr) (s : State) (hi : i.usesFpu = true) : ∃ body, exec i s = s.withFpu body := by
  cases i with
  | fabs | fadd | fcmpEq | fcmpGt | fdiv | fldi0 | fldi1 | flds | float | fmac | fmov | fmovLoadR0 | fmovPostInc
  | fmovLoad | fmovStoreR0 | fmovPreDec | fmovStore | fmul | fneg | fsts | fsub | ftrc | ldsFpscr | ldsFpul
  | ldsLFpscr | ldsLFpul | stsFpscr | stsFpul | stsLFpscr | stsLFpul =>
    exact ⟨_, rfl⟩
  | _ => nomatch hi

/-- Settles O38: what an FPU instruction would do otherwise does not matter, and it completes. -/
theorem pendingFpuExceptionMakesNops : Obligations.PendingFpuExceptionMakesNops := by
  intro i s hi hrun hpending
  obtain ⟨k, hk⟩ := Option.ne_none_iff_exists'.mp hpending
  obtain ⟨body, hexec⟩ := exec_eq_withFpu i s hi
  rw [hexec, s.withFpu_of_pending body k hrun hk]
  rfl

/-! ## A boundary that is open -/

theorem State.boundaryOpen_of_free (s : State) (hslot : s.slot = none) (hinh : s.intInhibit = false) :
    s.boundaryOpen = true := by
  simp [State.boundaryOpen, hslot, hinh]

/-- A due FPU exception goes before every request (rule R545, decision D9). -/
theorem State.boundaryEvent_of_fpu_due (s : State) (hopen : s.boundaryOpen = true) (hf : s.fpuPending = some 0) :
    s.boundaryEvent = some s.enterFpu := by
  simp [State.boundaryEvent, hopen, hf]

theorem State.boundaryEvent_of_pickIrq (s : State) (r : IrqRequest) (hopen : s.boundaryOpen = true)
    (hf : s.fpuPending ≠ some 0) (hpick : pickIrq s.platform.vec s.sr.i s.irq = some r) :
    s.boundaryEvent = some (s.enterIrq r) := by
  simp [State.boundaryEvent, hopen, hf, hpick]

/-- A running CPU takes what the boundary accepts in place of the instruction (rule R540). -/
theorem step_of_boundaryEvent (s : State) (e : Result) (hreset : NoReset s) (hmode : s.mode = .running)
    (he : (absorbed s).boundaryEvent = some e) : step s = e := by
  rw [step_of_noReset s hreset, State.cpuStep_of_running _ (by rw [mode_absorbed, hmode]), State.runStep, he]

theorem State.sleepStep_of_pickIrq (s : State) (r : IrqRequest) (hf : s.fpuPending = none)
    (hpick : pickIrq s.platform.vec s.sr.i s.irq = some r) : s.sleepStep = s.enterIrq r := by
  simp [State.sleepStep, hf, hpick]

theorem boundaryOpen_absorbed (s : State) : (absorbed s).boundaryOpen = s.boundaryOpen := by
  simp [State.boundaryOpen]

/-! ## O42 -/

/-- Settles O42: the boundary accepts the exception whatever requests are offered, and a running CPU has nothing to wake
from. -/
theorem fpuExceptionAcceptance : Obligations.FpuExceptionAcceptance := by
  intro s hreset hmode hslot hinh hf hready
  have hopen : (absorbed s).boundaryOpen = true := by rw [boundaryOpen_absorbed, s.boundaryOpen_of_free hslot hinh]
  have hevent := (absorbed s).boundaryEvent_of_fpu_due hopen (by rw [fpuPending_absorbed, hf])
  have hawake : ({ absorbed s with fpuPending := none, mode := .running } : State)
      = { absorbed s with fpuPending := none } := by
    rw [← hmode, ← mode_absorbed s]
  rw [step_of_boundaryEvent s _ hreset hmode hevent, ← hawake, ← pc_absorbed s, ← sr_absorbed s]
  exact (absorbed s).enterFpu_of_frameReady (frameReady_woken s _ hready)

/-! ## The request that is picked -/

/-- A request goes before another exactly where the model gives it the higher priority (rules R543, R545). -/
theorem outranks_iff_irqPriority_lt (s : State) (r q : IrqRequest) :
    Outranks s r q ↔ irqPriority s.platform.vec q < irqPriority s.platform.vec r := by
  rcases Nat.lt_trichotomy q.level r.level with hlower | hequal | hhigher
  · exact iff_of_true (.inl hlower) (by unfold irqPriority; split <;> split <;> omega)
  · -- the levels are equal, and the user break decides
    simp only [Outranks, irqPriority, hequal, Nat.lt_irrefl, false_or]
    grind
  · exact iff_of_false (by unfold Outranks; omega) (by unfold irqPriority; split <;> split <;> omega)

theorem not_outranks_self (s : State) (r : IrqRequest) : ¬ Outranks s r r := by
  rw [outranks_iff_irqPriority_lt]
  exact Nat.lt_irrefl _

/-- What is picked is one of the requests offered, and eligible. -/
theorem pickIrq_eq_some {vec : VecNum} {i : BitVec 4} {l : List IrqRequest} {r : IrqRequest}
    (h : pickIrq vec i l = some r) : r ∈ l ∧ irqEligible i r = true := by
  induction l with
  | nil => nomatch h
  | cons q rest ih =>
    unfold pickIrq at h
    split at h
    case h_1 =>
      split at h <;> cases h
      exact ⟨List.mem_cons_self, ‹_›⟩
    case h_2 best hbest =>
      split at h <;> cases h
      · exact ⟨List.mem_cons_self, And.left ‹_›⟩
      · exact (ih hbest).imp_left (List.mem_cons_of_mem q)

/-- An eligible request is picked before all behind it that do not outrank it (rule R540, log entry 9). -/
theorem pickIrq_cons_of_first (vec : VecNum) (i : BitVec 4) (r : IrqRequest) (after : List IrqRequest)
    (hr : irqEligible i r = true)
    (hafter : ∀ q ∈ after, irqEligible i q = true → irqPriority vec q ≤ irqPriority vec r) :
    pickIrq vec i (r :: after) = some r := by
  cases hpick : pickIrq vec i after with
  | none => simp [pickIrq, hpick, hr]
  | some best =>
    obtain ⟨hmem, helig⟩ := pickIrq_eq_some hpick
    simp [pickIrq, hpick, hr, hafter best hmem helig]

/-- Requests in front change nothing where the one picked behind them outranks every eligible one. -/
theorem pickIrq_append_of_outranked (vec : VecNum) (i : BitVec 4) (r : IrqRequest) (before rest : List IrqRequest)
    (hbefore : ∀ q ∈ before, irqEligible i q = true → irqPriority vec q < irqPriority vec r)
    (hpick : pickIrq vec i rest = some r) : pickIrq vec i (before ++ rest) = some r := by
  induction before with
  | nil => exact hpick
  | cons q before ih =>
    obtain ⟨hq, hbefore'⟩ := List.forall_mem_cons.mp hbefore
    have hlow : ¬ (irqEligible i q = true ∧ irqPriority vec r ≤ irqPriority vec q) :=
      fun ⟨helig, hle⟩ => Nat.not_lt.mpr hle (hq helig)
    rw [List.cons_append, pickIrq, ih hbefore']
    exact if_neg hlow

/-- Of the requests offered the first of the highest rank is picked (rules R540, R545). -/
theorem pickIrq_of_outranks (s : State) (r : IrqRequest) (before after : List IrqRequest) (hr : Eligible s r)
    (hbefore : ∀ q ∈ before, Eligible s q → Outranks s r q) (hafter : ∀ q ∈ after, Eligible s q → ¬ Outranks s q r) :
    pickIrq s.platform.vec s.sr.i (before ++ r :: after) = some r := by
  simp only [← irqEligible_iff, outranks_iff_irqPriority_lt, Nat.not_lt] at hr hbefore hafter
  exact pickIrq_append_of_outranked _ _ r before _ hbefore (pickIrq_cons_of_first _ _ r after hr hafter)

/-- The request accepted is the one taken off the list (log entry 8). -/
theorem erase_of_outranks (s : State) (r : IrqRequest) (before after : List IrqRequest) (hr : Eligible s r)
    (hbefore : ∀ q ∈ before, Eligible s q → Outranks s r q) : (before ++ r :: after).erase r = before ++ after := by
  have hnot : r ∉ before := fun hmem => not_outranks_self s r (hbefore r hmem hr)
  rw [List.erase_append_right _ hnot, List.erase_cons_head]

/-! ## O41 -/

/-- At an open boundary without a due FPU exception, and asleep with none pending, a step accepts the request picked. -/
theorem step_eq_enterIrq (s : State) (r : IrqRequest) (hreset : NoReset s)
    (hmode : (s.mode = .running ∧ s.slot = none ∧ s.intInhibit = false ∧ s.fpuPending ≠ some 0)
      ∨ (s.mode = .asleep ∧ s.fpuPending = none))
    (hpick : pickIrq s.platform.vec s.sr.i (absorbed s).irq = some r) : step s = (absorbed s).enterIrq r := by
  rw [← platform_absorbed s, ← sr_absorbed s] at hpick
  rcases hmode with ⟨hrun, hslot, hinh, hf⟩ | ⟨hasleep, hf⟩
  · have hopen : (absorbed s).boundaryOpen = true := by rw [boundaryOpen_absorbed, s.boundaryOpen_of_free hslot hinh]
    exact step_of_boundaryEvent s _ hreset hrun
      ((absorbed s).boundaryEvent_of_pickIrq r hopen (by rwa [fpuPending_absorbed]) hpick)
  · rw [step_of_asleep s hasleep hreset]
    exact (absorbed s).sleepStep_of_pickIrq r (by rw [fpuPending_absorbed, hf]) hpick

/-- R15, VBR and the platform are all that a frame and its vector are found by. -/
theorem frameReady_congr {s t : State} (hreg : t.reg 15 = s.reg 15) (hvbr : t.vbr = s.vbr)
    (hplatform : t.platform = s.platform) (v : BitVec 8) : FrameReady t v ↔ FrameReady s v := by
  simp only [FrameReady, Accessible, hreg, hvbr, hplatform]

/-- An accepted request is entered at the vector and with the mask of its level (rules R531, R532, R543). -/
theorem State.enterIrq_of_frameReady (s : State) (r : IrqRequest)
    (h : FrameReady { s with irq := s.irq.erase r, mode := .running } (irqVector s.platform.vec r)) :
    ∃ t, s.enterIrq r = .next t
      ∧ Entered { s with irq := s.irq.erase r, mode := .running } t (irqVector s.platform.vec r) s.pc
          { s.sr with i := BitVec.ofNat 4 (min r.level 15) } :=
  State.enter_masked_of_frameReady _ _ _ _ h

/-- Settles O41: the request is the one picked, and its entry succeeds where the frame of its vector is ready. -/
theorem interruptAcceptance : Obligations.InterruptAcceptance := by
  intro s r before after hreset hmode hirq hr hbefore hafter v hready
  have hpick : pickIrq s.platform.vec s.sr.i (absorbed s).irq = some r :=
    hirq ▸ pickIrq_of_outranks s r before after hr hbefore hafter
  have herase : (absorbed s).irq.erase r = before ++ after := hirq ▸ erase_of_outranks s r before after hr hbefore
  have hvector : v = irqVector (absorbed s).platform.vec r := by rw [platform_absorbed]; rfl
  rw [step_eq_enterIrq s r hreset hmode hpick, ← herase, hvector, ← pc_absorbed s, ← sr_absorbed s]
  refine (absorbed s).enterIrq_of_frameReady r ?_
  rw [← hvector]
  exact (frameReady_congr (reg_absorbed s 15) (vbr_absorbed s) (platform_absorbed s) v).mpr hready

end Sys2Proof.Machine
end
